-- ==== Sys2Proof/Word.lean ====
section
/-!
DEFINITION. The plain types every other file speaks in: bytes of the host port, station IDs, slot
indices, cycle numbers, priorities and slot sets (Conventions of spec/00_scope.md; Section 10).
-/

namespace Sys2Proof

/-- One byte, as clocked through the host port or carried in a notice (Section 10). -/
abbrev Byte := BitVec 8

/-- A station ID, 0 to 31 (R62). -/
abbrev StationId := Fin 32

/-- A slot index, 0 to 63 (R2, Conventions). -/
abbrev SlotIndex := Fin 64

/-- A cycle number, 0 to 65535, which wraps to 0 (R21, R25). -/
abbrev CycleNumber := BitVec 16

/-- A priority, 0 to 3, where 3 is highest (Table 5-1). -/
abbrev Priority := Fin 4

/-- A slot set, as a notice carries it: 64 bits, bit `k` naming slot `k` (Conventions; Section 10.1). -/
abbrev SlotSet := BitVec 64

end Sys2Proof
end

