-- ==== Sys2Proof/Config.lean ====
section
/-!
DEFINITION. What the part fixes once and for all: its oscillator's units of time and the sizes of its
collections, and the one value the spec leaves open. Every choice the spec leaves to "the world" is an
operand of a command or the order of the queue.
-/

namespace Sys2Proof.Config

/-- One step of 250 µs in periods of the 8 MHz oscillator (R22, Conventions). -/
def stepTicks : Nat := 2000

/-- One bit time of 20 µs in periods of the 8 MHz oscillator (R128). -/
def bitTicks : Nat := 160

/-- Twelve bit times: how long the line stands idle before a new frame (R130, R131). -/
def idleTicks : Nat := 12 * bitTicks

/-- The 5 µs within which a station joins another's start pulse (R131). -/
def joinTicks : Nat := 40

/-- The slots of a cycle (R21). -/
def slotCount : Nat := 64

/-- The most demands the Demand Queue holds (R81). -/
def demandCapacity : Nat := 8

/-- The most records the Notification Queue holds (R154). -/
def noteCapacity : Nat := 16

/-- The attempts ended in BREAK after which a notice has failed (R137). -/
def attemptLimit : Nat := 4

/-- The clash count at which a station faults (R139). -/
def clashLimit : Nat := 2

/-- The receive-fault count at which a station faults (R140). -/
def receiveFaultLimit : Nat := 16

/-- What SDO carries at each bit while CSN is low under an asserted RSTN or in a transaction that a reset has
caught: R148 says that SDO is driven while CSN is low and gives no content there (free value; DESIGN CHOICE,
assumption 32). -/
opaque sdoUnderReset : Nat → Bool

end Sys2Proof.Config
end

