-- ==== Sys2Proof/Machine/Table.lean ====
section
/-!
DEFINITION. A table of a fixed number of like entries (64 slot entries, 32 peer entries, 64 slot
summaries), held as a list with the proof of its length, so that it is plain data, is compared cell by
cell and evaluates in the kernel.
-/

namespace Sys2Proof.Machine

/-- `n` entries of type `α`, indexed from 0. -/
structure Table (α : Type) (n : Nat) where
  cells : List α
  size : cells.length = n
  deriving DecidableEq, Repr

/-- The table whose entry `i` is `f i`. -/
def Table.ofFn {α : Type} {n : Nat} (f : Fin n → α) : Table α n :=
  ⟨List.ofFn f, List.length_ofFn⟩

/-- Entry `i`. -/
def Table.get {α : Type} {n : Nat} (t : Table α n) (i : Fin n) : α :=
  t.cells.get (i.cast t.size.symm)

/-- The table with entry `i` replaced. -/
def Table.set {α : Type} {n : Nat} (t : Table α n) (i : Fin n) (a : α) : Table α n :=
  Table.ofFn fun j => if j = i then a else t.get j

/-- Every entry changed by the function of its index. -/
def Table.change {α : Type} {n : Nat} (t : Table α n) (f : Fin n → α → α) : Table α n :=
  Table.ofFn fun i => f i (t.get i)

@[simp] theorem Table.get_ofFn {α : Type} {n : Nat} (f : Fin n → α) (i : Fin n) :
    (Table.ofFn f).get i = f i := by
  unfold Table.ofFn Table.get
  rw [List.get_ofFn]
  rfl

@[simp] theorem Table.get_set {α : Type} {n : Nat} (t : Table α n) (i j : Fin n) (a : α) :
    (t.set i a).get j = if j = i then a else t.get j := by
  simp [Table.set]

@[simp] theorem Table.get_change {α : Type} {n : Nat} (t : Table α n) (f : Fin n → α → α)
    (i : Fin n) : (t.change f).get i = f i (t.get i) := by
  simp [Table.change]

/-- Two tables with equal entries are equal. -/
@[ext] theorem Table.ext_get {α : Type} {n : Nat} {t u : Table α n}
    (h : ∀ i, t.get i = u.get i) : t = u := by
  obtain ⟨a, ha⟩ := t
  obtain ⟨b, hb⟩ := u
  have : a = b := by
    apply List.ext_get (ha.trans hb.symm)
    intro k h1 h2
    simpa [Table.get] using h ⟨k, ha ▸ h1⟩
  subst this
  rfl

end Sys2Proof.Machine
end

