-- ==== Sys2Proof/Syntax.lean ====
section
/-!
DEFINITION. The commands of the block: one constructor of `Instr` for each row of
spec/opcode_table.json, with the operands the row's event carries. A host command carries the
transaction that the rise of CSN ends, its code included; a notice's completion carries the notice; where
the spec says that "the world decides", the decision is an operand or the order in which commands are
handed in.
-/

namespace Sys2Proof

/-- The role a PRESENCE announces (R42, Table 3-1). -/
inductive Role where
  | joining
  | member
  deriving DecidableEq, Repr

/-- The fields of a MARK (Table 2-2, Table 10-3). -/
structure MarkFields where
  cycle : CycleNumber
  slotLength : Nat
  budget : Nat
  deratedBudget : Nat
  period : Nat
  expiry : Nat
  quorum : Nat
  derateHold : Nat
  /-- the derate field: the sender's derate remaining less one, floored at 0 (R26) -/
  derate : Nat
  deriving DecidableEq, Repr

/-- The fields of a PRESENCE (R42, Table 10-4). -/
structure PresenceFields where
  role : Role
  priority : Priority
  units : Nat
  holdings : SlotSet
  deriving DecidableEq, Repr

/-- The fields of a CLAIM (R98, Table 10-4). -/
structure ClaimFields where
  units : Nat
  priority : Priority
  slots : SlotSet
  deriving DecidableEq, Repr

/-- A notice of the share line less its sender's ID, by kind (Table 10-2). -/
inductive Notice where
  | mark (m : MarkFields)
  | sag
  | contest (target : StationId) (slots : SlotSet)
  | release (slots : SlotSet)
  | leave
  | presence (p : PresenceFields)
  | claim (c : ClaimFields)
  deriving DecidableEq, Repr

/-- The parts of a completed MARK that the world may take in any order (Table 2-3, R56, R66, R70, R90). -/
inductive MarkPart where
  /-- parameter agreement (R70) -/
  | agreement
  /-- a MARK under this station's own ID that it did not send (R141) -/
  | duplicateId
  /-- the standing counter and the lapse for LAPSED_SEND (R66) -/
  | standing
  /-- the joining count and joining completion (R64, R65) -/
  | joining
  /-- silence counts, expiry and the orphans of ABSENT peers (R50, R51) -/
  | silence
  /-- orphan countdown (R16) -/
  | orphans
  /-- promotion and SERVED (R90) -/
  | promotion
  /-- local hold countdown and the end of yield hold (R102) -/
  | localHold
  /-- derate remaining and the window (R112) -/
  | derate
  /-- a SAG queued to extend the window (R108) -/
  | sagExtension
  /-- the scheduled PRESENCE (R41) -/
  | presence
  deriving DecidableEq, Repr

/-- What a listener saw when it detected a receive error (R134). Times are in oscillator periods. -/
inductive ReceiveError where
  /-- a falling edge within the body, this long after the edge before it -/
  | edge (sinceLast : Nat)
  /-- a dominant period of this length -/
  | dominant (length : Nat)
  /-- the edges stopped after these bits, before the last check bit -/
  | truncated (bits : List Bool)
  /-- a falling edge in the check gap that is no part of a BREAK -/
  | gapEdge
  /-- the bits read so far, in the order sent, judged by Section 10.2 and the check -/
  | frame (bits : List Bool)
  deriving DecidableEq, Repr

/-- A host transaction as it stands at the rise of CSN that ends it: what SDI read at each rising edge of
SCK since the fall of CSN, in the order sampled (R148). The command code is in it, as its first eight
bits (R150). -/
structure HostFrame where
  bits : List Bool
  deriving DecidableEq, Repr

/-- The pins that the station reads as it starts: the ID pins (R62), and CSN, which is low while a host
transaction is in progress (R148). -/
structure ResetPins where
  id : StationId
  csnLow : Bool
  deriving DecidableEq, Repr

/-- The commands: one constructor for each row of spec/opcode_table.json. -/
inductive Instr where
  -- reset (R61, R62)
  | powerOn (pins : ResetPins)
  | rstnAsserted
  | rstnNegated (pins : ResetPins)
  -- host commands (Sections 4, 5, 9)
  | nop (frame : HostFrame)
  | setup (frame : HostFrame)
  | enter (frame : HostFrame)
  | leave (frame : HostFrame)
  | restart (frame : HostFrame)
  | demandAppend (frame : HostFrame)
  | demandReplace (frame : HostFrame)
  | withdraw (frame : HostFrame)
  | status (frame : HostFrame)
  | nextNote (frame : HostFrame)
  | snap (frame : HostFrame)
  | snapRead (frame : HostFrame)
  | peersRead (frame : HostFrame)
  | queueRead (frame : HostFrame)
  -- the SAGIN input (Section 6)
  | saginChange (asserted : Bool)
  | sagConditionChange
  -- a mark and what comes about at it
  | markComplete (sender : StationId) (mark : MarkFields) (order : List MarkPart)
  | peerExpiry (peer : StationId)
  | absentPeerOrphaned (peer : StationId)
  | orphanCountdownEnd (slot : SlotIndex) (peer : StationId)
  | standingLapse
  | joiningCompletion
  | windowEnd
  | yieldHoldEnd
  -- the other notices
  | sagComplete (sender : StationId)
  | contestComplete (sender target : StationId) (slots : SlotSet)
  | releaseComplete (sender : StationId) (slots : SlotSet)
  | leaveComplete (sender : StationId)
  | presenceComplete (sender : StationId) (presence : PresenceFields)
  | claimComplete (sender : StationId) (claim : ClaimFields)
  -- the Cycle Timer and the other timers
  | slotBoundary
  | planningPoint
  | markGapBegin
  | demandCompleted
  | markTimeout
  | founding
  | lapseWaitEnd
  -- the load output
  | onPoint
  | tailPoint
  -- the share line
  | attemptStart
  | arbitrationLost
  | receiveError (error : ReceiveError)
  | readbackMismatch (sent read returned : Bool)
  | breakEnd
  | lineBreakSeen
  | attemptBroken
  | transmitFailure
  | clashFault
  | receiveFault
  | frameReceptionBegin (early : Nat)
  -- a host frame whose first byte is no command code (R150)
  | unknownCommandCode (code : Byte) (frame : HostFrame)
  deriving DecidableEq, Repr

end Sys2Proof
end

