-- ==== Sys2Proof/Machine/State.lean ====
section
/-!
DEFINITION. The state of one VDS32, block by block as Table 0-1 lists the blocks, the queue of commands
that are waiting, the state right after reset, and the reasons a step could stop (there are none but
the host's own `notModelled`, which no arm uses).
-/

namespace Sys2Proof.Machine

/-- No meaning of this model faults: every rule of the spec gives its event an effect, and FAULTED is a
station state that the machine goes on in, not a stop. The type is closed and empty. -/
inductive Fault where
  deriving DecidableEq, Repr

/-- Why a step is refused. -/
inductive Refusal where
  /-- Raised by an arm of `exec` whose command has no meaning yet (safe). No arm of this model raises it. -/
  | notModelled (mnemonic : String)
  deriving DecidableEq, Repr

/-! ### Setup (Table 0-3) -/

/-- The sag mode of the setup (Section 6). -/
inductive SagMode where
  | shared
  | localOnly
  deriving DecidableEq, Repr

/-- The output polarity of the setup (R118). -/
inductive Polarity where
  | activeHigh
  | activeLow
  deriving DecidableEq, Repr

/-- The setup record: the twelve parameters of Table 0-3. -/
structure Setup where
  /-- L, in steps of 250 µs -/
  slotLength : Nat
  /-- B, in lu -/
  budget : Nat
  /-- Bd, in lu -/
  deratedBudget : Nat
  /-- P, in cycles -/
  period : Nat
  /-- E, in marks -/
  expiry : Nat
  /-- Q, in stations -/
  quorum : Nat
  /-- D, in marks -/
  derateHold : Nat
  /-- U, in lu -/
  load : Nat
  /-- G, in steps of 250 µs -/
  guard : Nat
  /-- S, in steps of 250 µs -/
  sagFilter : Nat
  sagMode : SagMode
  polarity : Polarity
  deriving DecidableEq, Repr

/-! ### Slot Map (Section 1) -/

/-- The orphan part of a holder record (R3, R15). -/
structure OrphanPart where
  origin : CycleNumber
  marksLeft : Nat
  deriving DecidableEq, Repr

/-- A holder record (R3). It is live when it has no orphan part. -/
structure HolderRecord where
  station : StationId
  units : Nat
  orphan : Option OrphanPart
  deriving DecidableEq, Repr

/-- A slot entry: its holder list in grant order (R2). Its committed units are computed from the list,
which is the law of R1. -/
abbrev SlotEntry := List HolderRecord

/-- The Slot Map: 64 slot entries. -/
abbrev SlotMap := Table SlotEntry 64

/-- The cleared map (R17). -/
def SlotMap.cleared : SlotMap := Table.ofFn fun _ => []

/-! ### Peer Table (Section 3) -/

/-- A peer entry (Table 3-1). -/
structure PeerEntry where
  /-- LIVE, else ABSENT -/
  live : Bool
  role : Role
  units : Nat
  priority : Priority
  silence : Nat
  deriving DecidableEq, Repr

/-- A cleared entry (R39). -/
def PeerEntry.cleared : PeerEntry := ⟨false, .joining, 1, 0, 0⟩

/-- The Peer Table: 32 peer entries, by station ID. -/
abbrev PeerTable := Table PeerEntry 32

/-- The cleared Peer Table (R39). -/
def PeerTable.cleared : PeerTable := Table.ofFn fun _ => PeerEntry.cleared

/-! ### Membership Controller (Section 4) -/

/-- The station states (R60). -/
inductive StationState where
  | offline
  | joining
  | member
  | lapsed
  | leaving
  | faulted
  deriving DecidableEq, Repr

/-- The causes of the exit cause record and of STATE records (Table 4-1). -/
inductive Cause where
  | none
  | powerOn
  | hostRestart
  | hostLeave
  | lapsedSend
  | lapsedLine
  | faultParameter
  | faultDuplicate
  | faultReceive
  deriving DecidableEq, Repr

/-- The Membership Controller's items (Table 4-1) but for the setup-valid flag, which is set exactly
while `State.setup` holds a record. -/
structure Membership where
  station : StationState
  joiningCount : Nat
  ownPresence : Bool
  standing : Nat
  /-- the lapse wait timer, in oscillator periods -/
  lapseWait : Nat
  exitCause : Cause
  deriving DecidableEq, Repr

/-! ### Cycle Timer (Section 2) -/

/-- The phase of the Cycle Timer with the items defined in it (Table 2-1). Times are in oscillator
periods. -/
inductive CyclePhase where
  | unaligned
  | inSlot (slot : SlotIndex) (elapsed : Nat)
  | inGap (elapsed : Nat) (awaited : CycleNumber)
  deriving DecidableEq, Repr

/-- The Cycle Timer (Table 2-1). The aligned flag is set exactly when the phase is not UNALIGNED. -/
structure CycleTimer where
  phase : CyclePhase
  cycle : CycleNumber
  /-- the founding timer, in oscillator periods; 0 while it is stopped -/
  founding : Nat
  /-- the MODEL's own field: slot 1 has begun and its planning point has not been taken yet (R24) -/
  planningDue : Bool
  deriving DecidableEq, Repr

/-! ### Demand Queue and Claim Planner (Section 5) -/

/-- How the planner picks slots (Table 5-1). -/
inductive Placement where
  | pack
  | spread
  deriving DecidableEq, Repr

/-- A demand record (Table 5-1). A demand with span 0 is continuous. -/
structure Demand where
  tag : Byte
  want : Nat
  floor : Nat
  priority : Priority
  placement : Placement
  span : Nat
  remaining : Nat
  served : Bool
  deriving DecidableEq, Repr

/-- The Claim Planner (Table 5-4). -/
structure ClaimPlanner where
  claimOutstanding : Bool
  pickOrder : List SlotIndex
  yieldHold : Bool
  localHold : Nat
  announcedPriority : Priority
  deriving DecidableEq, Repr

/-- The states of a holding (Table 5-2). -/
inductive HoldState where
  | pending
  | active
  | releasing
  deriving DecidableEq, Repr

/-- An entry of the Holding List (R88). -/
structure Holding where
  slot : SlotIndex
  state : HoldState
  deriving DecidableEq, Repr

/-! ### Sag Monitor (Section 6) -/

/-- The Sag Monitor (Table 6-1) and the level of its input pin. -/
structure SagMonitor where
  /-- the SAGIN pin: asserted or negated -/
  sagin : Bool
  /-- the filter timer, in oscillator periods -/
  filter : Nat
  /-- the sag condition: present or absent -/
  condition : Bool
  derateRemaining : Nat
  /-- the MODEL's own field: a derating window has begun and its end has not been taken yet (R109, R112) -/
  windowOpen : Bool
  deriving DecidableEq, Repr

/-! ### Load Output Controller (Section 7) -/

/-- The output phases (Table 7-1). -/
inductive OutputPhase where
  | idle
  | lead
  | on
  | tail
  deriving DecidableEq, Repr

/-- The Load Output Controller (Table 7-1). -/
structure LoadOutput where
  phase : OutputPhase
  carry : Bool
  deriving DecidableEq, Repr

/-! ### Line Controller and Outbox (Section 8) -/

/-- The receiver phases (Table 8-3). -/
inductive RxPhase where
  | idle
  | frame
  | brk
  deriving DecidableEq, Repr

/-- The transmitter phases (Table 8-3). A BREAK that the station drives is for a receive error (R134)
or for a readback mismatch (R139); only the first raises the receive-fault count (R140). -/
inductive TxPhase where
  | silent
  | sending
  | breaking (forReceiveError : Bool)
  deriving DecidableEq, Repr

/-- The Line Controller (Table 8-3) with three fields of the MODEL's own. -/
structure LineController where
  rx : RxPhase
  /-- idle time, in oscillator periods -/
  idleTime : Nat
  /-- the MODEL's own field: the station began to listen and has not yet seen twelve bit times without
  a falling edge, so it treats the line as busy (R131) -/
  awaitingIdle : Bool
  /-- the MODEL's own field: the station has entered LAPSED in this very moment with a frame on the line,
  so that a completion of that frame at the same moment is still taken, after the lapse (R28) -/
  closing : Bool
  tx : TxPhase
  /-- the MODEL's own field: the attempt in progress has ended in BREAK and its end has not been counted
  yet; the value says whether it was a clash (R137, R139) -/
  broken : Option Bool
  attempts : Nat
  clashes : Nat
  receiveFaults : Nat
  deriving DecidableEq, Repr

/-- The Line Controller after a reset (Table 8-3). -/
def LineController.cleared : LineController :=
  ⟨.idle, 0, true, false, .silent, none, 0, 0, 0⟩

/-- The Outbox (R143): at most one waiting notice of each kind, with the fields it has while it waits,
and at most one notice in flight. -/
structure Outbox where
  /-- a waiting MARK carries the awaited value it was queued with (R25, R26) -/
  mark : Option CycleNumber
  sag : Bool
  contest : Option (StationId × SlotSet)
  release : Option SlotSet
  leave : Bool
  presence : Bool
  claim : Option SlotSet
  inFlight : Option Notice
  deriving DecidableEq, Repr

/-- The empty Outbox (R147). -/
def Outbox.empty : Outbox := ⟨none, false, none, none, false, false, none, none⟩

/-! ### Host Port, Notification Queue and Snapshot Buffer (Section 9) -/

/-- The response status codes (Table 9-1). -/
inductive Status where
  | ok
  | wrongState
  | badParam
  | full
  | notFound
  | notReady
  | badFrame
  | empty
  deriving DecidableEq, Repr

/-- A response frame (R149, R168). -/
structure Response where
  code : Byte
  status : Status
  data : List Byte
  deriving DecidableEq, Repr

/-- The Host Port: the response slot, the setup staging and the transaction that a reset has caught (Table
0-1, R148). -/
structure HostPort where
  response : Response
  /-- the twelve field bytes of a SETUP while it is judged (R152) -/
  staging : Option (List Byte)
  /-- CSN was low as the station started, so the transaction in progress is abandoned: no command is taken
  from it, and its rise of CSN ends it (R148) -/
  abandoned : Bool
  deriving DecidableEq, Repr

/-- The Host Port at power-on: the response of a NOP with status OK (R149). -/
def HostPort.cleared : HostPort := ⟨⟨0, .ok, []⟩, none, false⟩

/-- The causes of a SHORT record (Table 9-5). -/
inductive ShortCause where
  | sag
  | contest
  | quorum
  deriving DecidableEq, Repr

/-- The codes of a DONE record (Table 9-5). -/
inductive DoneCode where
  | completed
  | withdrawn
  | replaced
  | left
  deriving DecidableEq, Repr

/-- The codes of a YIELDED record (Table 9-5). -/
inductive YieldCode where
  | sagShared
  | sagLocal
  | contest
  | quorum
  deriving DecidableEq, Repr

/-- The codes of a DERATE record (Table 9-5). -/
inductive DerateCode where
  | started
  | ended
  deriving DecidableEq, Repr

/-- What a notification record says, by kind (Table 9-5). -/
inductive NoteBody where
  | served (tag : Byte) (count : Nat)
  | short (tag : Byte) (count : Nat) (cause : ShortCause)
  | done (tag : Byte) (remaining : Nat) (code : DoneCode)
  | yielded (count : Nat) (code : YieldCode)
  | state (new : StationState) (cause : Cause) (liveCount : Nat)
  | derate (count : Nat) (code : DerateCode)
  deriving DecidableEq, Repr

/-- A notification record (R154). -/
structure Note where
  cycle : CycleNumber
  body : NoteBody
  deriving DecidableEq, Repr

/-- The Notification Queue, oldest record first, and its overflow flag (R154). -/
structure NotificationQueue where
  records : List Note
  overflow : Bool
  deriving DecidableEq, Repr

/-- One slot's summary in the Snapshot Buffer (Table 9-6). -/
structure SlotSummary where
  committed : Nat
  holders : Nat
  orphanUnits : Nat
  own : Option HoldState
  deriving DecidableEq, Repr

/-- The Snapshot Buffer (Table 9-6). -/
structure SnapshotBuffer where
  slots : Table SlotSummary 64
  cycle : CycleNumber
  valid : Bool
  pending : Bool
  deriving DecidableEq, Repr

/-! ### The station -/

/-- One VDS32: its fourteen blocks, its setup and ID, the level of RSTN, and the commands that wait,
first in first out. -/
structure State where
  pending : List Instr
  /-- RSTN is asserted (R61) -/
  rstn : Bool
  /-- the station ID as sampled (R62) -/
  id : StationId
  /-- the held setup record; the setup-valid flag is set exactly while there is one (R152) -/
  setup : Option Setup
  line : LineController
  outbox : Outbox
  timer : CycleTimer
  map : SlotMap
  peers : PeerTable
  member : Membership
  demands : List Demand
  planner : ClaimPlanner
  holdings : List Holding
  sag : SagMonitor
  output : LoadOutput
  port : HostPort
  notes : NotificationQueue
  snap : SnapshotBuffer
  deriving DecidableEq, Repr

/-- The machine right after reset: power has come up with RSTN negated (R61), and the one STATE record
of that reset is queued. The ID pins read 0 and SAGIN is negated (DESIGN CHOICE, assumption 1). -/
def State.reset : State :=
  { pending := []
    rstn := false
    id := 0
    setup := none
    line := LineController.cleared
    outbox := Outbox.empty
    timer := ⟨.unaligned, 0, 0, false⟩
    map := SlotMap.cleared
    peers := PeerTable.cleared
    member := ⟨.offline, 0, false, 0, 0, .powerOn⟩
    demands := []
    planner := ⟨false, [], false, 0, 0⟩
    holdings := []
    sag := ⟨false, 0, false, 0, false⟩
    output := ⟨.idle, false⟩
    port := HostPort.cleared
    notes := ⟨[⟨0, .state .offline .powerOn 0⟩], false⟩
    snap := ⟨Table.ofFn fun _ => ⟨0, 0, 0, none⟩, 0, false, false⟩ }

end Sys2Proof.Machine
end

