-- ==== Sys2Proof/Machine/Operands.lean ====
section
/-!
DEFINITION. The operands of the host commands: the judgement of a command frame (R150), the fields of
SETUP and DEMAND as clocked in, and the tests of their values (Tables 9-3 and 5-1, R83, R167).
-/

namespace Sys2Proof

/-! ### Command frames (Table 10-7, R148, R150) -/

/-- Eight bits as one byte, most significant bit first (R148). -/
def byteOfBits (b7 b6 b5 b4 b3 b2 b1 b0 : Bool) : Byte :=
  BitVec.ofBool b7 ++ BitVec.ofBool b6 ++ BitVec.ofBool b5 ++ BitVec.ofBool b4 ++ BitVec.ofBool b3
    ++ BitVec.ofBool b2 ++ BitVec.ofBool b1 ++ BitVec.ofBool b0

/-- The whole bytes of a bit sequence; up to seven further bits make none (R150). -/
def wholeBytes : List Bool → List Byte
  | b7 :: b6 :: b5 :: b4 :: b3 :: b2 :: b1 :: b0 :: rest =>
    byteOfBits b7 b6 b5 b4 b3 b2 b1 b0 :: wholeBytes rest
  | _ => []

/-- The whole bytes clocked in. -/
def HostFrame.bytes (f : HostFrame) : List Byte := wholeBytes f.bits

/-- The command code: the first byte clocked in, or none where no whole byte was (R150). -/
def HostFrame.code (f : HostFrame) : Option Byte := f.bytes.head?

/-- The bytes after the code: the fields and the padding. -/
def HostFrame.fields (f : HostFrame) : List Byte := f.bytes.tail

/-- Whether one to seven further bits follow the last whole byte. -/
def HostFrame.ragged (f : HostFrame) : Bool := f.bits.length % 8 != 0

end Sys2Proof

namespace Sys2Proof.Machine

/-- A frame does not fit its command: fewer bytes than the command's fields, one to seven further bits
after the last whole byte, or a padding byte that is not 00h (R150). `fields` is the number of bytes
after the code that Table 10-7 gives. -/
def badFrame (fields : Nat) (f : HostFrame) : Bool :=
  decide (f.fields.length < fields) || f.ragged || (f.fields.drop fields).any fun b => b != 0

/-- Field byte `i` after the code. -/
def fieldByte (f : HostFrame) (i : Nat) : Byte := f.fields.getD i 0

/-- Field byte `i` as a number. -/
def fieldNat (f : HostFrame) (i : Nat) : Nat := (fieldByte f i).toNat

/-! ### SETUP -/

/-- A sag mode byte: 00h SHARED, 01h LOCAL (Section 10.3). -/
def sagModeFrom : Nat → Option SagMode
  | 0 => some .shared
  | 1 => some .localOnly
  | _ => none

/-- A polarity byte: 00h ACTIVE_HIGH, 01h ACTIVE_LOW (Section 10.3). -/
def polarityFrom : Nat → Option Polarity
  | 0 => some .activeHigh
  | 1 => some .activeLow
  | _ => none

/-- The tests of Table 9-3 on a record's numbers. -/
def Setup.valid (r : Setup) : Bool :=
  decide (8 ≤ r.slotLength ∧ r.slotLength ≤ 128)
    && decide (1 ≤ r.budget ∧ r.budget ≤ 255)
    && decide (r.deratedBudget ≤ r.budget)
    && decide (1 ≤ r.period ∧ r.period ≤ 4)
    && decide (2 * r.period + 1 ≤ r.expiry ∧ r.expiry ≤ 15)
    && decide (1 ≤ r.quorum ∧ r.quorum ≤ 32)
    && decide (1 ≤ r.derateHold ∧ r.derateHold ≤ 15)
    && decide (1 ≤ r.load ∧ r.load ≤ min r.budget 63)
    && decide (1 ≤ r.guard ∧ r.guard ≤ r.slotLength / 4)
    && decide (1 ≤ r.sagFilter ∧ r.sagFilter ≤ 15)

/-- The setup record that twelve staged bytes spell, or none where a test of Table 9-3 fails (R152). -/
def stagedSetup : List Byte → Option Setup
  | [l, b, bd, p, e, q, d, u, g, f, mode, pol] =>
    match sagModeFrom mode.toNat, polarityFrom pol.toNat with
    | some mode, some pol =>
      let r : Setup := ⟨l.toNat, b.toNat, bd.toNat, p.toNat, e.toNat, q.toNat, d.toNat, u.toNat,
        g.toNat, f.toNat, mode, pol⟩
      if r.valid then some r else none
    | _, _ => none
  | _ => none

/-! ### DEMAND -/

/-- A placement byte: 00h PACK, 01h SPREAD (Section 10.3). -/
def placementFrom : Nat → Option Placement
  | 0 => some .pack
  | 1 => some .spread
  | _ => none

/-- A demand's numbers are in the ranges of Table 5-1, with m not greater than k (R83). -/
def Demand.valid (d : Demand) : Bool :=
  decide (1 ≤ d.tag.toNat) && decide (1 ≤ d.want ∧ d.want ≤ 64) && decide (1 ≤ d.floor ∧ d.floor ≤ d.want)

/-- The demand record that a DEMAND frame's seven field bytes spell, or none where a field is outside its
range. Its served flag is clear and its remaining is its span (R83). -/
def demandFrom (f : HostFrame) : Option Demand :=
  match placementFrom (fieldNat f 4) with
  | none => none
  | some placement =>
    if h : fieldNat f 3 < 4 then
      let span := fieldNat f 5 * 256 + fieldNat f 6
      let d : Demand := ⟨fieldByte f 0, fieldNat f 1, fieldNat f 2, ⟨fieldNat f 3, h⟩, placement, span,
        span, false⟩
      if d.valid then some d else none
    else none

end Sys2Proof.Machine
end

