-- ==== Sys2Proof/Decode.lean ====
section
/-!
DEFINITION. The two decoders. The Host Port's takes the first byte clocked in to its command (R150, Table
10-7). The decoder of table words has nothing to read: no row of spec/opcode_table.json gives any bit, so the
list of rows with bits is empty and no word spells a command.
-/

namespace Sys2Proof

/-- The command of a host transaction, by the first byte clocked in (Table 10-7); none where no whole byte was
clocked in, since such a transaction carries no frame (R150). -/
def commandOf (f : HostFrame) : Option Instr :=
  f.code.map fun code =>
    match code.toNat with
    | 0x00 => .nop f
    | 0x01 => .setup f
    | 0x02 => .enter f
    | 0x03 => .leave f
    | 0x04 => .restart f
    | 0x05 => .demandAppend f
    | 0x06 => .demandReplace f
    | 0x07 => .withdraw f
    | 0x08 => .status f
    | 0x09 => .nextNote f
    | 0x0A => .snap f
    | 0x0B => .snapRead f
    | 0x0C => .peersRead f
    | 0x0D => .queueRead f
    | _ => .unknownCommandCode code f

/-- A row of the table that gives bits: how many, which of them are fixed, to what, and the command. -/
structure TableRow where
  bits : Nat
  mask : Nat
  fixed : Nat
  command : Instr
  deriving DecidableEq, Repr

/-- The rows of spec/opcode_table.json that give bits: none does. -/
def tableRows : List TableRow := []

/-- The command that a word spells by the table's bits, or none. -/
def decodeTableWord (nbits w : Nat) : Option Instr :=
  (tableRows.find? fun r => r.bits == nbits && (w &&& r.mask) == r.fixed).map TableRow.command

end Sys2Proof
end

