-- ==== Sys2Proof/Machine/Slots.lean ====
section
/-!
DEFINITION. Slot sets and slot lists (Conventions; Section 10.1): membership, building a set from
slots, taking its slots in ascending index, and the cyclic distance of SPREAD placement (R97).
-/

namespace Sys2Proof.Machine

/-- All slot indices, ascending. -/
def allSlots : List SlotIndex := List.finRange 64

/-- All station IDs, ascending. -/
def allStations : List StationId := List.finRange 32

/-- Whether the set `x` names slot `k`. -/
def slotIn (x : SlotSet) (k : SlotIndex) : Bool := x.getLsbD k.val

/-- The set that names slot `k` alone. -/
def slotBit (k : SlotIndex) : SlotSet := BitVec.ofNat 64 (2 ^ k.val)

/-- The set of the slots of a list. -/
def slotSetOf : List SlotIndex → SlotSet
  | [] => 0
  | k :: ks => slotBit k ||| slotSetOf ks

/-- The slots a set names, in ascending index (Conventions, Lists and Sets). -/
def slotsOf (x : SlotSet) : List SlotIndex := allSlots.filter (slotIn x)

/-- The set of the slots that satisfy a test. -/
def slotSetWhere (p : SlotIndex → Bool) : SlotSet := slotSetOf (allSlots.filter p)

/-- Whether every slot of `x` is in `y` (R146). -/
def slotSubset (x y : SlotSet) : Bool := x &&& ~~~y == 0

/-- The slot after slot `k` in the same cycle: none after slot 63 (R122). -/
def nextSlot (k : SlotIndex) : Option SlotIndex :=
  if h : k.val + 1 < 64 then some ⟨k.val + 1, h⟩ else none

/-- The cyclic distance between two slots: slot 63 and slot 0 are 1 apart (R97). -/
def cyclicDistance (a b : SlotIndex) : Nat :=
  let d := (a.val - b.val) + (b.val - a.val)
  min d (64 - d)

end Sys2Proof.Machine
end

