-- ==== Sys2Proof/Machine/Holders.lean ====
section
/-!
DEFINITION. Holder lists and the Slot Map (Section 1, with the reconciliation of Section 3 and the
yield order of Section 6): what a slot entry amounts to, and every change a rule makes to the map,
said once per slot and applied to all 64.
-/

namespace Sys2Proof.Machine

/-! ### One slot entry -/

/-- A record without an orphan part is live (R3). -/
def HolderRecord.isLive (r : HolderRecord) : Bool := r.orphan.isNone

/-- Committed units: the sum of the units of all records, orphans included (R1). -/
def committed (e : SlotEntry) : Nat := (e.map HolderRecord.units).sum

/-- Orphan units: the sum over the records that have an orphan part (Table 1-1). -/
def orphanUnits (e : SlotEntry) : Nat :=
  ((e.filter fun r => !r.isLive).map HolderRecord.units).sum

/-- Whether station `p` is listed in the entry, live or orphan. -/
def lists (e : SlotEntry) (p : StationId) : Bool := e.any fun r => r.station == p

/-- Whether the entry holds a live record of station `p`. -/
def listsLive (e : SlotEntry) (p : StationId) : Bool :=
  e.any fun r => r.station == p && r.isLive

/-- The entry without any record of `p` (R11, R14, R45). -/
def removeAll (p : StationId) (e : SlotEntry) : SlotEntry :=
  e.filter fun r => !(r.station == p)

/-- The entry without the live record of `p` (R9, R18). -/
def removeLive (p : StationId) (e : SlotEntry) : SlotEntry :=
  e.filter fun r => !(r.station == p && r.isLive)

/-- The entry without the orphan record of `p` (R44). -/
def removeOrphan (p : StationId) (e : SlotEntry) : SlotEntry :=
  e.filter fun r => !(r.station == p && !r.isLive)

/-- Whether CLAIM admission or reconciliation appends `p` with `units` under `budget`: the station is not
listed, and the new sum is at most the budget (Tables 1-3 and 3-3). -/
def fits (budget : Nat) (p : StationId) (units : Nat) (e : SlotEntry) : Bool :=
  !lists e p && decide (committed e + units ≤ budget)

/-- A new live record at the end of the list (R2). -/
def append (p : StationId) (units : Nat) (e : SlotEntry) : SlotEntry := e ++ [⟨p, units, none⟩]

/-- Every live record of `p` takes an orphan part (R15). -/
def orphanRecords (p : StationId) (origin : CycleNumber) (left : Nat) (e : SlotEntry) : SlotEntry :=
  e.map fun r =>
    if r.station == p && r.isLive then { r with orphan := some ⟨origin, left⟩ } else r

/-- The orphan countdown of one record at a mark with cycle number `c` (R16). -/
def countRecord (c : CycleNumber) (r : HolderRecord) : HolderRecord :=
  match r.orphan with
  | some o => if o.origin == c then r else { r with orphan := some { o with marksLeft := o.marksLeft - 1 } }
  | none => r

/-- A record whose marks left has reached zero (R16). -/
def HolderRecord.ranOut (r : HolderRecord) : Bool :=
  match r.orphan with
  | some o => o.marksLeft == 0
  | none => false

/-- The orphan countdown of one slot: count down, then remove the records that reached zero (R16). -/
def countOrphans (c : CycleNumber) (e : SlotEntry) : SlotEntry :=
  (e.map (countRecord c)).filter fun r => !r.ranOut

/-- The removals of a PRESENCE in one slot: a returning peer's orphan goes first (R44), then the peer's
record goes from a slot it does not announce (R45). -/
def reconcileRemovals (p : StationId) (returning announced : Bool) (e : SlotEntry) : SlotEntry :=
  let e := if returning then removeOrphan p e else e
  if announced then e else removeAll p e

/-- One slot of a PRESENCE: removals, then the addition of Table 3-3. -/
def reconcileSlot (budget : Nat) (p : StationId) (units : Nat) (returning announced : Bool)
    (e : SlotEntry) : SlotEntry :=
  let e := reconcileRemovals p returning announced e
  if announced && fits budget p units e then append p units e else e

/-- Case 2 of Table 3-3: an announced slot in which the peer holds no record and does not fit. -/
def contested (budget : Nat) (p : StationId) (units : Nat) (returning announced : Bool)
    (e : SlotEntry) : Bool :=
  let e := reconcileRemovals p returning announced e
  announced && !lists e p && !fits budget p units e

/-- The live holders of an entry in yield order: lowest priority first, and among equals the last in
grant order first (R110). -/
def yieldOrder (priority : StationId → Priority) (e : SlotEntry) : List HolderRecord :=
  let newestFirst := (e.filter HolderRecord.isLive).reverse
  ([0, 1, 2, 3] : List Priority).flatMap fun q =>
    newestFirst.filter fun r => priority r.station == q

/-- Designation one by one until the remainder is at most the derated budget (R110). -/
def yieldUntil (budget : Nat) : Nat → List HolderRecord → List StationId
  | _, [] => []
  | units, r :: rs =>
    if units ≤ budget then [] else r.station :: yieldUntil budget (units - r.units) rs

/-- The stations whose records in this slot must yield (R110). -/
def designated (budget : Nat) (priority : StationId → Priority) (e : SlotEntry) : List StationId :=
  yieldUntil budget (committed e) (yieldOrder priority e)

/-! ### The map -/

/-- CLAIM admission over a claim's set (R7, Table 1-3). -/
def SlotMap.admission (budget : Nat) (p : StationId) (units : Nat) (x : SlotSet) (m : SlotMap) : SlotMap :=
  m.change fun k e => if slotIn x k && fits budget p units e then append p units e else e

/-- The granted set of a CLAIM, in ascending index (R7, R8). -/
def SlotMap.granted (budget : Nat) (p : StationId) (units : Nat) (x : SlotSet) (m : SlotMap) :
    List SlotIndex :=
  allSlots.filter fun k => slotIn x k && fits budget p units (m.get k)

/-- RELEASE removal (R9). -/
def SlotMap.release (p : StationId) (x : SlotSet) (m : SlotMap) : SlotMap :=
  m.change fun k e => if slotIn x k then removeLive p e else e

/-- CONTEST removal (R11). -/
def SlotMap.contest (p : StationId) (x : SlotSet) (m : SlotMap) : SlotMap :=
  m.change fun k e => if slotIn x k then removeAll p e else e

/-- LEAVE removal (R14). -/
def SlotMap.removeStation (p : StationId) (m : SlotMap) : SlotMap :=
  m.change fun _ e => removeAll p e

/-- Removal of a station's live records from every slot (R18). -/
def SlotMap.removeLiveOf (p : StationId) (m : SlotMap) : SlotMap :=
  m.change fun _ e => removeLive p e

/-- Orphan parts on every live record of a peer (R15). -/
def SlotMap.orphan (p : StationId) (origin : CycleNumber) (left : Nat) (m : SlotMap) : SlotMap :=
  m.change fun _ e => orphanRecords p origin left e

/-- The orphan countdown of a mark (R16). -/
def SlotMap.countdown (c : CycleNumber) (m : SlotMap) : SlotMap :=
  m.change fun _ e => countOrphans c e

/-- Presence reconciliation (R44 to R46). -/
def SlotMap.reconcile (budget : Nat) (p : StationId) (units : Nat) (returning : Bool) (x : SlotSet)
    (m : SlotMap) : SlotMap :=
  m.change fun k e => reconcileSlot budget p units returning (slotIn x k) e

/-- The contest set of a PRESENCE (R46, R47). -/
def SlotMap.contestSet (budget : Nat) (p : StationId) (units : Nat) (returning : Bool) (x : SlotSet)
    (m : SlotMap) : SlotSet :=
  slotSetWhere fun k => contested budget p units returning (slotIn x k) (m.get k)

/-- The slots in which a station holds a live record: what its PRESENCE announces (R4, R42). -/
def SlotMap.heldBy (p : StationId) (m : SlotMap) : SlotSet :=
  slotSetWhere fun k => listsLive (m.get k) p

/-- Whether the map holds a live record of `p` in any slot (R50). -/
def SlotMap.anyLive (p : StationId) (m : SlotMap) : Bool :=
  allSlots.any fun k => listsLive (m.get k) p

/-- The slots in which station `p` is designated to yield (R110). -/
def SlotMap.designatedSlots (budget : Nat) (priority : StationId → Priority) (p : StationId)
    (m : SlotMap) : SlotSet :=
  slotSetWhere fun k => (designated budget priority (m.get k)).contains p

end Sys2Proof.Machine
end

