-- ==== Sys2Proof/Machine/Flags.lean ====
section
/-!
DEFINITION. The conditions and levels that are computed from State and never stored: the setup in force
and its times, the live count and quorum, the effective budget, what the station may do on the line,
and the output pins ATTN, LOADOUT and SHARE.
-/

namespace Sys2Proof.Machine

/-! ### The setup in force -/

/-- What the parameters read as while no setup record is held: no rule reads them there (assumption 12). -/
def Setup.unset : Setup := ⟨0, 0, 0, 0, 0, 0, 0, 0, 0, 0, .shared, .activeHigh⟩

/-- The parameters in force. -/
def State.cfg (s : State) : Setup := s.setup.getD Setup.unset

/-- The setup-valid flag (R60, R152). -/
def State.setupValid (s : State) : Bool := s.setup.isSome

/-- L in oscillator periods (R22). -/
def State.slotTicks (s : State) : Nat := s.cfg.slotLength * Config.stepTicks

/-- One cycle-time, 64 × L, in oscillator periods. -/
def State.cycleTicks (s : State) : Nat := Config.slotCount * s.slotTicks

/-- The founding time, (E+1) × 64 × L (R33). -/
def State.foundingTicks (s : State) : Nat := (s.cfg.expiry + 1) * s.cycleTicks

/-- The lapse wait, E × 64 × L (R69). -/
def State.lapseTicks (s : State) : Nat := s.cfg.expiry * s.cycleTicks

/-- S in oscillator periods (R104). -/
def State.filterTicks (s : State) : Nat := s.cfg.sagFilter * Config.stepTicks

/-- G in oscillator periods (R119). -/
def State.guardTicks (s : State) : Nat := s.cfg.guard * Config.stepTicks

/-- The effective budget Beff: Bd while derate remaining is above zero, and B otherwise (R6). -/
def State.beff (s : State) : Nat :=
  if 0 < s.sag.derateRemaining then s.cfg.deratedBudget else s.cfg.budget

/-! ### Station state and quorum -/

/-- JOINING or MEMBER: the states in which the map and the Peer Table apply notices (R5, R40). -/
def State.onLine (s : State) : Bool :=
  match s.member.station with
  | .joining | .member => true
  | _ => false

/-- JOINING, MEMBER or LEAVING: the states in which the station may drive the line (R142). -/
def State.drives (s : State) : Bool :=
  match s.member.station with
  | .joining | .member | .leaving => true
  | _ => false

/-- The states in which the Line Controller listens (R142): the driving ones, and LAPSED for its MARKs. -/
def State.listens (s : State) : Bool := s.drives || s.member.station == .lapsed

/-- Whether a peer entry counts toward the live count (R54). -/
def PeerEntry.counts (e : PeerEntry) : Bool := e.live && e.role == .member

/-- The live count (R54). -/
def State.liveCount (s : State) : Nat :=
  (allStations.filter fun p => (s.peers.get p).counts).length
    + if s.member.station == .member then 1 else 0

/-- The live count as STATUS and STATE records give it: by R54 in JOINING and MEMBER, 0 in the other
states (Table 9-4, R68, R72, R73, R74, R75). -/
def State.reportedLive (s : State) : Nat := if s.onLine then s.liveCount else 0

/-- Quorate: MEMBER with a live count of at least Q (R76). -/
def State.quorate (s : State) : Bool :=
  s.member.station == .member && decide (s.cfg.quorum ≤ s.liveCount)

/-! ### Demands and holdings -/

/-- A holding is PENDING or ACTIVE. -/
def Holding.held (h : Holding) : Bool :=
  match h.state with
  | .releasing => false
  | _ => true

/-- A holding is ACTIVE. -/
def Holding.isActive (h : Holding) : Bool := h.state == .active

/-- The slots of the PENDING and ACTIVE entries, in grant order. -/
def State.heldSlots (s : State) : List SlotIndex := (s.holdings.filter Holding.held).map Holding.slot

/-- The number of PENDING and ACTIVE entries: the held amount of R89. -/
def State.heldCount (s : State) : Nat := (s.holdings.filter Holding.held).length

/-- The ACTIVE count (R90). -/
def State.activeCount (s : State) : Nat := (s.holdings.filter Holding.isActive).length

/-- Whether the Holding List holds an ACTIVE entry for slot `k` (R121). -/
def State.activeAt (s : State) (k : SlotIndex) : Bool :=
  s.holdings.any fun h => h.slot == k && h.isActive

/-- The head's want k, or 0 with no head (R86). -/
def State.headWant (s : State) : Nat :=
  match s.demands with
  | [] => 0
  | d :: _ => d.want

/-- The station's priority: that of its head demand, or 0 when it has no demand (R86). -/
def State.priority (s : State) : Priority :=
  match s.demands with
  | [] => 0
  | d :: _ => d.priority

/-- The priority the Sag Monitor reads for a station: the Peer Table's, and for this station's own
records the announced priority (R110). -/
def State.yieldPriority (s : State) (p : StationId) : Priority :=
  if p = s.id then s.planner.announcedPriority else (s.peers.get p).priority

/-! ### Outbox -/

/-- The number of notices held, waiting and in flight together (R143). -/
def Outbox.occupancy (o : Outbox) : Nat :=
  o.mark.isSome.toNat + o.sag.toNat + o.contest.isSome.toNat + o.release.isSome.toNat
    + o.leave.toNat + o.presence.toNat + o.claim.isSome.toNat + o.inFlight.isSome.toNat

/-! ### Timer and pins -/

/-- The aligned flag: set in IN SLOT and IN GAP (R21). -/
def State.aligned (s : State) : Bool :=
  match s.timer.phase with
  | .unaligned => false
  | _ => true

/-- ATTN is asserted while the Notification Queue holds at least one record (R155). -/
def State.attn (s : State) : Bool := !s.notes.records.isEmpty

/-- The three conditions of LOADOUT (R118). -/
inductive Loadout where
  | highImpedance
  | off
  | on
  deriving DecidableEq, Repr

/-- LOADOUT: high-impedance until the first valid setup, then at its on level in phase ON and at its off
level in the other phases (R118, R119). -/
def State.loadout (s : State) : Loadout :=
  if s.setupValid then if s.output.phase = .on then .on else .off else .highImpedance

/-- The level LOADOUT is driven to, high (true) or low, by the polarity (R118). -/
def State.loadoutPin (s : State) : Option Bool :=
  match s.loadout with
  | .highImpedance => none
  | .on => some (s.cfg.polarity == .activeHigh)
  | .off => some (s.cfg.polarity == .activeLow)

/-- Whether the station drives the share line: as a sender or with a BREAK (R142). -/
def State.drivingLine (s : State) : Bool :=
  match s.line.tx with
  | .silent => false
  | _ => true

end Sys2Proof.Machine
end

