-- ==== Sys2Proof/Machine/Frame.lean ====
section
/-!
DEFINITION. The notice frame of Sections 8.2, 8.4, 10.1 and 10.2: keys, payload layouts, the check, what
makes a notice malformed, and the judgement of the bits a listener has read.
-/

namespace Sys2Proof.Machine

/-! ### Bits, most significant first -/

/-- The low `n` bits of `v`, most significant bit first. -/
def bitsOf : Nat → Nat → List Bool
  | 0, _ => []
  | n + 1, v => v.testBit n :: bitsOf n v

/-- The number whose bits, most significant first, are given. -/
def valueOf (bs : List Bool) : Nat := bs.foldl (fun v b => 2 * v + b.toNat) 0

/-- The bits of bytes, in the order sent. -/
def byteBits (bytes : List Nat) : List Bool := bytes.flatMap (bitsOf 8)

/-- The first `n` bytes of a bit sequence. -/
def bytesFrom : Nat → List Bool → List Nat
  | 0, _ => []
  | n + 1, bs => valueOf (bs.take 8) :: bytesFrom n (bs.drop 8)

/-! ### Layouts (Tables 10-2 to 10-5) -/

/-- The kind code (Table 10-2). -/
def noticeKind : Notice → Nat
  | .mark _ => 0
  | .sag => 1
  | .contest _ _ => 2
  | .release _ => 3
  | .leave => 4
  | .presence _ => 5
  | .claim _ => 6

/-- The payload length of a kind (Table 10-2); kind code 7 has none. -/
def payloadLength : Nat → Option Nat
  | 0 => some 10
  | 1 => some 0
  | 2 => some 9
  | 3 => some 8
  | 4 => some 0
  | 5 => some 10
  | 6 => some 10
  | _ => none

/-- The eight bytes of a slot set: bit 7 of byte j stands for slot 8j (Section 10.1). On the wire the
slots pass in ascending index. -/
def slotSetBytes (x : SlotSet) : List Nat := bytesFrom 8 (allSlots.map (slotIn x))

/-- The slot set of eight bytes. -/
def slotSetFrom (bytes : List Nat) : SlotSet :=
  let bs := byteBits bytes
  slotSetWhere fun k => bs.getD k.val false

/-- The payload bytes of a notice (Tables 10-3 to 10-5). -/
def noticePayload : Notice → List Nat
  | .mark m =>
    [m.cycle.toNat / 256, m.cycle.toNat % 256, m.slotLength, m.budget, m.deratedBudget, m.period,
      m.expiry, m.quorum, m.derateHold, m.derate]
  | .sag => []
  | .contest t x => t.val :: slotSetBytes x
  | .release x => slotSetBytes x
  | .leave => []
  | .presence p =>
    ((if p.role = .member then 128 else 0) + p.priority.val) :: p.units :: slotSetBytes p.holdings
  | .claim c => c.units :: c.priority.val :: slotSetBytes c.slots

/-- The arbitration key: the kind code followed by the sender's ID (Section 8.2). -/
def arbitrationKey (sender : StationId) (n : Notice) : Nat := noticeKind n * 32 + sender.val

/-- The key, length and payload bits of a notice, in the order sent. -/
def bodyBits (sender : StationId) (n : Notice) : List Bool :=
  bitsOf 8 (arbitrationKey sender n) ++ bitsOf 4 (noticePayload n).length ++ byteBits (noticePayload n)

/-! ### The check (R133) -/

/-- One bit into the remainder register of the generator x^16 + x^12 + x^5 + 1. -/
def checkStep (r : BitVec 16) (b : Bool) : BitVec 16 :=
  if (r.getLsbD 15).xor b then (r <<< 1) ^^^ 0x1021#16 else r <<< 1

/-- The check over the bits sent: the register starts at all ones (R133). -/
def check (bs : List Bool) : BitVec 16 := bs.foldl checkStep 0xFFFF#16

/-- The bits of a whole frame: body, then check, most significant bit first. -/
def frameBits (sender : StationId) (n : Notice) : List Bool :=
  bodyBits sender n ++ bitsOf 16 (check (bodyBits sender n)).toNat

/-- Bit times from the start pulse to the end of the check gap (Section 8.9). -/
def frameBitTimes (n : Notice) : Nat := 31 + 8 * (noticePayload n).length

/-! ### Malformed notices (R164, R165) -/

/-- A notice that a frame can carry and no listener finds malformed: its fields fit their bytes, and no
condition of Table 10-6 holds. -/
def noticeWellFormed (sender : StationId) : Notice → Bool
  | .mark m =>
    decide (m.derate ≤ 14) && decide (m.slotLength < 256) && decide (m.budget < 256)
      && decide (m.deratedBudget < 256) && decide (m.period < 256) && decide (m.expiry < 256)
      && decide (m.quorum < 256) && decide (m.derateHold < 256)
  | .sag => true
  | .contest t x => !(t == sender) && !(x == 0)
  | .release x => !(x == 0)
  | .leave => true
  | .presence p =>
    decide (1 ≤ p.units) && decide (p.units < 256) && (p.role == .member || p.holdings == 0)
  | .claim c => decide (1 ≤ c.units) && decide (c.units < 256) && !(c.slots == 0)

/-- A priority byte. -/
def priorityFrom (v : Nat) : Option Priority := if h : v < 4 then some ⟨v, h⟩ else none

/-- A station ID byte. -/
def stationFrom (v : Nat) : Option StationId := if h : v < 32 then some ⟨v, h⟩ else none

/-- The notice that a kind's payload bytes spell, or none where Table 10-6 makes it malformed (R165). -/
def noticeFrom (kind : Nat) (sender : StationId) (bytes : List Nat) : Option Notice :=
  let n : Option Notice :=
    match kind, bytes with
    | 0, [c1, c0, l, b, bd, p, e, q, d, r] =>
      some (.mark ⟨BitVec.ofNat 16 (c1 * 256 + c0), l, b, bd, p, e, q, d, r⟩)
    | 1, [] => some .sag
    | 2, t :: x => (stationFrom t).map fun t => .contest t (slotSetFrom x)
    | 3, x => some (.release (slotSetFrom x))
    | 4, [] => some .leave
    | 5, f :: u :: x =>
      (priorityFrom (f % 128)).map fun q =>
        .presence ⟨if f / 128 = 1 then .member else .joining, q, u, slotSetFrom x⟩
    | 6, u :: q :: x => (priorityFrom q).map fun q => .claim ⟨u, q, slotSetFrom x⟩
    | _, _ => none
  n.filter (noticeWellFormed sender)

/-- What the bits read so far amount to. -/
inductive Judgement where
  /-- more bits belong to the frame -/
  | incomplete
  /-- a length field of 12 to 15 (R134) -/
  | badLength
  /-- malformed by key and length (R164) -/
  | badKey
  /-- malformed by payload (R165) -/
  | badPayload
  /-- a check failure (R133) -/
  | badCheck
  /-- a whole frame that carries this notice -/
  | whole (sender : StationId) (notice : Notice)
  deriving DecidableEq, Repr

/-- The five ID bits as a station ID. -/
def senderOf (bs : List Bool) : StationId := Fin.ofNat 32 (valueOf ((bs.drop 3).take 5))

/-- A listener's judgement of the bits of one frame, each error at the bit at which it is known
(R130, R133, R134, R164, R165). -/
def judge (bs : List Bool) : Judgement :=
  if bs.length < 12 then .incomplete
  else
    let kind := valueOf (bs.take 3)
    let len := valueOf ((bs.drop 8).take 4)
    if 12 ≤ len then .badLength
    else if payloadLength kind ≠ some len then .badKey
    else if bs.length < 12 + 8 * len then .incomplete
    else
      match noticeFrom kind (senderOf bs) (bytesFrom len (bs.drop 12)) with
      | none => .badPayload
      | some n =>
        if bs.length < 28 + 8 * len then .incomplete
        else if valueOf ((bs.drop (12 + 8 * len)).take 16) = (check (bs.take (12 + 8 * len))).toNat then
          .whole (senderOf bs) n
        else .badCheck

/-- Whether what a listener saw is one of the receive errors of R134. -/
def isReceiveError : ReceiveError → Bool
  | .edge t => decide (2 * t < Config.bitTicks) || decide (3 * Config.bitTicks < 2 * t)
  | .dominant t => decide (Config.bitTicks < t) && decide (t ≤ 2 * Config.bitTicks)
  | .truncated bs => judge bs == .incomplete
  | .gapEdge => true
  | .frame bs =>
    match judge bs with
    | .incomplete | .whole _ _ => false
    | _ => true

end Sys2Proof.Machine
end

