-- ==== Sys2Proof/Machine/Update.lean ====
section
/-!
DEFINITION. One update per block of State. Every rule of the model changes the state through these, so
that Laws/State.lean can say once what each leaves alone.
-/

namespace Sys2Proof.Machine

/-- The state with the queue of waiting commands replaced. -/
def State.withPending (s : State) (x : List Instr) : State :=
  { s with pending := x }

/-- The state with the RSTN level replaced. -/
def State.withRstn (s : State) (x : Bool) : State :=
  { s with rstn := x }

/-- The state with the station ID replaced. -/
def State.withId (s : State) (x : StationId) : State :=
  { s with id := x }

/-- The state with the held setup record replaced. -/
def State.withSetup (s : State) (x : Option Setup) : State :=
  { s with setup := x }

/-- The state with the Line Controller replaced. -/
def State.withLine (s : State) (x : LineController) : State :=
  { s with line := x }

/-- The state with the Outbox replaced. -/
def State.withOutbox (s : State) (x : Outbox) : State :=
  { s with outbox := x }

/-- The state with the Cycle Timer replaced. -/
def State.withTimer (s : State) (x : CycleTimer) : State :=
  { s with timer := x }

/-- The state with the Slot Map replaced. -/
def State.withMap (s : State) (x : SlotMap) : State :=
  { s with map := x }

/-- The state with the Peer Table replaced. -/
def State.withPeers (s : State) (x : PeerTable) : State :=
  { s with peers := x }

/-- The state with the Membership Controller replaced. -/
def State.withMember (s : State) (x : Membership) : State :=
  { s with member := x }

/-- The state with the Demand Queue replaced. -/
def State.withDemands (s : State) (x : List Demand) : State :=
  { s with demands := x }

/-- The state with the Claim Planner replaced. -/
def State.withPlanner (s : State) (x : ClaimPlanner) : State :=
  { s with planner := x }

/-- The state with the Holding List replaced. -/
def State.withHoldings (s : State) (x : List Holding) : State :=
  { s with holdings := x }

/-- The state with the Sag Monitor replaced. -/
def State.withSag (s : State) (x : SagMonitor) : State :=
  { s with sag := x }

/-- The state with the Load Output Controller replaced. -/
def State.withOutput (s : State) (x : LoadOutput) : State :=
  { s with output := x }

/-- The state with the Host Port replaced. -/
def State.withPort (s : State) (x : HostPort) : State :=
  { s with port := x }

/-- The state with the Notification Queue replaced. -/
def State.withNotes (s : State) (x : NotificationQueue) : State :=
  { s with notes := x }

/-- The state with the Snapshot Buffer replaced. -/
def State.withSnap (s : State) (x : SnapshotBuffer) : State :=
  { s with snap := x }

end Sys2Proof.Machine
end

