-- ==== Sys2Proof/Machine/Ops.lean ====
section
/-!
DEFINITION. The operations the commands share, block by block: queueing notifications and notices, the
Holding List and the output that follows it, the head change, quorum loss, the changes of station
state, and the passing of time. Each rule is said here once.
-/

namespace Sys2Proof.Machine

/-! ### Notification Queue -/

/-- Queue a record: appended at the end with the cycle number the Cycle Timer holds, or dropped with the
overflow flag set if the queue holds 16 (R154). -/
def State.note (b : NoteBody) (s : State) : State :=
  if s.notes.records.length < Config.noteCapacity then
    s.withNotes { s.notes with records := s.notes.records ++ [⟨s.timer.cycle, b⟩] }
  else
    s.withNotes { s.notes with overflow := true }

/-- Queue a STATE record with the new state, a cause and the live count after the change (R80). -/
def State.noteState (c : Cause) (s : State) : State :=
  s.note (.state s.member.station c s.reportedLive)

/-! ### Outbox (R145, Table 8-4) -/

/-- A MARK waits, or is dropped as redundant. -/
def Outbox.queueMark (c : CycleNumber) (o : Outbox) : Outbox :=
  if o.mark.isNone then { o with mark := some c } else o

/-- A CONTEST waits; for the same target its set is joined into the waiting one; for a different target
it is dropped. An empty set queues nothing (Section 10.1). -/
def Outbox.queueContest (t : StationId) (x : SlotSet) (o : Outbox) : Outbox :=
  if x = 0 then o
  else
    match o.contest with
    | none => { o with contest := some (t, x) }
    | some (t', y) => if t' = t then { o with contest := some (t, y ||| x) } else o

/-- A RELEASE waits, or its set is joined into the waiting one. An empty set queues nothing. -/
def Outbox.queueRelease (x : SlotSet) (o : Outbox) : Outbox :=
  if x = 0 then o
  else
    match o.release with
    | none => { o with release := some x }
    | some y => { o with release := some (y ||| x) }

/-- Every waiting notice flushed, the notice in flight kept (R73, R147). -/
def Outbox.flush (o : Outbox) : Outbox := { Outbox.empty with inFlight := o.inFlight }

/-- Queue this station's MARK (R25, R27, R29, R34). -/
def State.queueMark (c : CycleNumber) (s : State) : State := s.withOutbox (s.outbox.queueMark c)

/-- Queue a SAG: a second waiting one is redundant (R107). -/
def State.queueSag (s : State) : State := s.withOutbox { s.outbox with sag := true }

/-- Queue a CONTEST (R47). -/
def State.queueContest (t : StationId) (x : SlotSet) (s : State) : State :=
  s.withOutbox (s.outbox.queueContest t x)

/-- Queue a RELEASE naming the slots of `x` (R98). -/
def State.queueRelease (x : SlotSet) (s : State) : State := s.withOutbox (s.outbox.queueRelease x)

/-- Queue a LEAVE (R73). -/
def State.queueLeave (s : State) : State := s.withOutbox { s.outbox with leave := true }

/-- Queue a PRESENCE: a second waiting one is redundant (R41). -/
def State.queuePresence (s : State) : State := s.withOutbox { s.outbox with presence := true }

/-! ### Claim Planner -/

/-- The planner's flags and counters cleared (R93). -/
def ClaimPlanner.cleared : ClaimPlanner := ⟨false, [], false, 0, 0⟩

/-- The claim-outstanding flag cleared and the pick order discarded. -/
def State.endClaim (s : State) : State :=
  s.withPlanner { s.planner with claimOutstanding := false, pickOrder := [] }

/-- A waiting CLAIM is withdrawn and the claim-outstanding flag cleared (R146). A CLAIM in flight is not
touched. -/
def State.withdrawClaim (s : State) : State :=
  if s.outbox.claim.isSome then (s.withOutbox { s.outbox with claim := none }).endClaim else s

/-- The yield-hold flag is set, and a waiting CLAIM is withdrawn in the same event (R102, R103). -/
def State.setYieldHold (s : State) : State :=
  (s.withPlanner { s.planner with yieldHold := true }).withdrawClaim

/-! ### Load output -/

/-- Phase IDLE and the carry flag clear: LOADOUT at its off level (R124, R125, R126). -/
def State.outputOff (s : State) : State := s.withOutput ⟨.idle, false⟩

/-- What the output does when the Holding List has changed: while ON it goes off at once if the current
slot's entry is no longer ACTIVE (R124), and under carry it ends in TAIL if the next slot's entry is no
longer ACTIVE (R123). Under carry the phase that the loss of slot `k`'s own entry leaves, alone or in one
event with the entry of slot `k + 1`, reads TAIL by R123's "the same happens" and IDLE by R124; the model
takes IDLE, as R124 says and R123 refers to it (DESIGN CHOICE, assumption 30). LOADOUT is off in both. -/
def State.syncOutput (s : State) : State :=
  match s.timer.phase with
  | .inSlot k _ =>
    if s.output.phase = .on then
      if s.activeAt k = false then s.outputOff
      else if s.output.carry && !((nextSlot k).any s.activeAt) then s.withOutput ⟨.tail, false⟩
      else s
    else s
  | _ => s

/-- The start of a slot: ON by carry or LEAD at a MEMBER station, IDLE in any other state (R119, R120). -/
def State.outputSlotStart (s : State) : State :=
  if s.member.station = .member then
    if s.output.carry then s.withOutput ⟨.on, false⟩ else s.withOutput ⟨.lead, false⟩
  else s.outputOff

/-! ### Holding List -/

/-- The slots of the PENDING and ACTIVE entries that satisfy `p`. -/
def State.heldWhere (p : SlotIndex → Bool) (s : State) : List SlotIndex := s.heldSlots.filter p

/-- PENDING and ACTIVE entries whose slot satisfies `p` become RELEASING; a RELEASING entry is passed
over (R88). -/
def releaseEntries (p : SlotIndex → Bool) (hs : List Holding) : List Holding :=
  hs.map fun h => if h.held && p h.slot then { h with state := .releasing } else h

/-- The one path that releases holdings (R98): the entries become RELEASING, one RELEASE naming their
slots is queued, and the output follows. -/
def State.releaseHoldings (p : SlotIndex → Bool) (s : State) : State :=
  ((s.withHoldings (releaseEntries p s.holdings)).queueRelease (slotSetOf (s.heldWhere p))).syncOutput

/-- Holding List entries whose slot satisfies `p` are removed, whatever their state, and the output
follows (R10, R12). -/
def State.dropHoldings (p : SlotIndex → Bool) (s : State) : State :=
  (s.withHoldings (s.holdings.filter fun h => !p h.slot)).syncOutput

/-- PENDING and ACTIVE entries beyond the first `k` in grant order become RELEASING: the last granted go
first (R86, R100). -/
def State.releaseSurplus (k : Nat) (s : State) : State :=
  let surplus := s.heldSlots.drop k
  s.releaseHoldings fun i => surplus.contains i

/-! ### Demands -/

/-- The head's served flag cleared. -/
def clearServed : List Demand → List Demand
  | [] => []
  | d :: ds => { d with served := false } :: ds

/-- If the head's served flag is set, queue SHORT with the head's tag, the ACTIVE count and the cause,
and clear the flag (R91). -/
def State.short (c : ShortCause) (s : State) : State :=
  match s.demands with
  | [] => s
  | d :: _ =>
    if d.served then
      (s.note (.short d.tag s.activeCount c)).withDemands (clearServed s.demands)
    else s

/-- The same where the ACTIVE count has fallen below the head's floor (R13, R91, R111). -/
def State.shortIfBelow (c : ShortCause) (s : State) : State :=
  match s.demands with
  | [] => s
  | d :: _ => if s.activeCount < d.floor then s.short c else s

/-- Queue DONE for each demand in queue order (R73, R84). -/
def State.noteDone (code : DoneCode) (ds : List Demand) (s : State) : State :=
  ds.foldl (fun s d => s.note (.done d.tag d.remaining code)) s

/-- A waiting CLAIM is fitted to the head (R99): shrunk from the end of the pick order to the room left,
or withdrawn where there is none. -/
def State.fitClaim (s : State) : State :=
  if s.outbox.claim.isSome then
    let room := s.headWant - s.heldCount
    if room = 0 then s.withdrawClaim
    else if room < s.planner.pickOrder.length then
      let picks := s.planner.pickOrder.take room
      (s.withOutbox { s.outbox with claim := some (slotSetOf picks) }).withPlanner
        { s.planner with pickOrder := picks }
    else s
  else s

/-- The head change, with the Demand Queue already changed (R86): surplus released, a waiting CLAIM
fitted, the new head's served flag clear. The station's priority follows the head by itself. -/
def State.headChange (s : State) : State :=
  let s := (s.releaseSurplus s.headWant).fitClaim
  s.withDemands (clearServed s.demands)

/-- A counted head whose remaining is 0 is removed with DONE (COMPLETED), and the head change follows
(R92). -/
def State.completeDemand (s : State) : State :=
  match s.demands with
  | [] => s
  | d :: ds =>
    if d.span ≠ 0 ∧ d.remaining = 0 then
      ((s.withDemands ds).note (.done d.tag 0 .completed)).headChange
    else s

/-- The end of a cycle: at a MEMBER station a counted head whose floor is met is served one cycle more,
and is completed by it if its remaining reaches 0 (R92). -/
def State.cycleEnd (s : State) : State :=
  match s.demands with
  | [] => s
  | d :: ds =>
    if s.member.station = .member ∧ d.span ≠ 0 ∧ d.floor ≤ s.activeCount then
      (s.withDemands ({ d with remaining := d.remaining - 1 } :: ds)).completeDemand
    else s

/-! ### Quorum -/

/-- Quorum loss at a MEMBER station (R77): every holding and the station's own live records go, one
RELEASE names their slots, LOADOUT turns off, a waiting CLAIM is withdrawn, then YIELDED and SHORT. -/
def State.quorumLoss (s : State) : State :=
  let n := s.holdings.length
  let slots := slotSetOf (s.holdings.map Holding.slot)
  let s := ((s.withMap (s.map.removeLiveOf s.id)).withHoldings []).queueRelease slots
  let s := s.outputOff.withdrawClaim
  let s := if n = 0 then s else s.note (.yielded n .quorum)
  s.short .quorum

/-- A change of the live count from `before` is handed to the Membership Controller: a MEMBER whose count
has fallen below Q loses quorum in the same event (R56, R77). -/
def State.afterLive (before : Nat) (s : State) : State :=
  if s.member.station = .member ∧ s.cfg.quorum ≤ before ∧ s.liveCount < s.cfg.quorum then
    s.quorumLoss
  else s

/-! ### Line Controller -/

/-- What the Line Controller holds on entry to LAPSED: it stops driving, drops the frame it is receiving
and zeroes its counts; in LAPSED it goes on listening, and a frame cut off here is not taken up again
(R142). A frame that completes at the very moment of the lapse is the exception: it has ended on the line,
and it is taken after the lapse, so that a MARK aligns the LAPSED station (R28, assumption 31). -/
def LineController.aborted (l : LineController) : LineController :=
  { LineController.cleared with
    awaitingIdle := l.awaitingIdle || l.rx != .idle
    closing := l.rx == .frame && (l.tx == .silent || l.tx == .sending) }

/-- The line after a frame has ended cleanly at this station: idle time counts afresh, any attempt is
over, and the receive-fault count returns to 0 (R130, R136, R140). A station that has heard a frame to its
end knows the line to be between frames. -/
def LineController.frameEnded (l : LineController) : LineController :=
  { l with
    rx := .idle, idleTime := 0, awaitingIdle := false, closing := false, tx := .silent, broken := none,
    receiveFaults := 0 }

/-! ### Changes of station state (Tables 4-3 and 4-4) -/

/-- The collections and the planner cleared, LOADOUT off, the head's served flag cleared, and derate
remaining 0: what lapse, fault and the return to OFFLINE share (R17, R39, R68, R72, R74, R93, R116). -/
def State.dropOut (s : State) : State :=
  ((((((((s.withMap SlotMap.cleared).withPeers PeerTable.cleared).withHoldings []).withOutbox
    Outbox.empty).withPlanner ClaimPlanner.cleared).outputOff).withDemands
      (clearServed s.demands)).withSag { s.sag with derateRemaining := 0, windowOpen := false })

/-- The Cycle Timer's founding timer stopped (R33). -/
def CycleTimer.foundingStopped (t : CycleTimer) : CycleTimer := { t with founding := 0 }

/-- The Cycle Timer after a reset (Table 2-5). -/
def CycleTimer.cleared : CycleTimer := ⟨.unaligned, 0, 0, false⟩

/-- Entry to LAPSED (R68): the Cycle Timer keeps its phase and alignment. -/
def State.enterLapsed (c : Cause) (s : State) : State :=
  let s := s.dropOut.withLine s.line.aborted
  let s := s.withTimer s.timer.foundingStopped
  let s := s.withMember { s.member with station := .lapsed, lapseWait := 0, exitCause := c }
  s.noteState c

/-- Entry to FAULTED (R72): the Cycle Timer becomes UNALIGNED and keeps its cycle number. -/
def State.enterFaulted (c : Cause) (s : State) : State :=
  let s := s.dropOut.withLine LineController.cleared
  let s := s.withTimer { CycleTimer.cleared with cycle := s.timer.cycle }
  let s := s.withMember { s.member with station := .faulted, exitCause := c }
  s.noteState c

/-- Entry to OFFLINE from LEAVING (R74): the exit cause record is not written again. -/
def State.endLeaving (s : State) : State :=
  let s := (s.withMap SlotMap.cleared).withPeers PeerTable.cleared
  let s := (s.withOutbox Outbox.empty).withLine LineController.cleared
  let s := s.withTimer CycleTimer.cleared
  let s := s.withSag { s.sag with derateRemaining := 0, windowOpen := false }
  let s := s.withMember { s.member with station := .offline }
  s.noteState .hostLeave

/-- Entry to JOINING, by ENTER or at the end of a lapse wait (R63, R69): the phase of the Cycle Timer is
kept, the founding timer starts, and the line is busy until twelve bit times of idle (R131). Listening begins
afresh, so a frame that a LAPSED station was receiving is not taken, not even one that completes at the very
moment of the entry where the entry is taken first (DESIGN CHOICE, assumption 33). -/
def State.enterJoining (s : State) : State :=
  let s := s.withMember { s.member with station := .joining, joiningCount := 0, ownPresence := false }
  let s := (s.withTimer { s.timer with founding := 0 }).withLine LineController.cleared
  s.queuePresence.noteState .none

/-- A JOINING station whose count and flag are complete becomes MEMBER (R65); in the gap its gap timer
restarts and it queues a MARK (R29). -/
def State.becomeMember (s : State) : State :=
  let s := s.withMember { s.member with station := .member, standing := 0 }
  let s :=
    match s.timer.phase with
    | .inGap _ awaited =>
      (s.withTimer { s.timer with phase := .inGap 0 awaited, founding := 0 }).queueMark awaited
    | _ => s.withTimer s.timer.foundingStopped
  s.noteState .none

/-- The joining condition of R65. -/
def State.joiningDone (s : State) : Bool :=
  s.member.station == .joining && decide (s.cfg.expiry ≤ s.member.joiningCount) && s.member.ownPresence

/-- Joining completion where its condition stands (R65). -/
def State.joinIfDone (s : State) : State := if s.joiningDone then s.becomeMember else s

/-! ### Peers -/

/-- A LIVE peer whose silence count has reached E expires (R51): its entry becomes ABSENT, its live
records become orphans with the present cycle number as origin, and the live count is handed on. -/
def State.expirePeer (p : StationId) (s : State) : State :=
  let e := s.peers.get p
  if s.onLine ∧ p ≠ s.id ∧ e.live = true ∧ s.cfg.expiry ≤ e.silence then
    let before := s.liveCount
    let s := s.withPeers (s.peers.set p { e with live := false, silence := 0 })
    (s.withMap (s.map.orphan p s.timer.cycle s.cfg.expiry)).afterLive before
  else s

/-- An ABSENT peer's silence count has reached E (R50): its live records become orphans and the count
returns to 0. -/
def State.orphanAbsent (p : StationId) (s : State) : State :=
  let e := s.peers.get p
  if s.onLine ∧ p ≠ s.id ∧ e.live = false ∧ s.cfg.expiry ≤ e.silence then
    (s.withPeers (s.peers.set p { e with silence := 0 })).withMap
      (s.map.orphan p s.timer.cycle s.cfg.expiry)
  else s

/-! ### Notices landing at this station -/

/-- Whether the completing frame is this station's own: it bears this station's ID, and this station won
the key and sent it to the end (R141). -/
def State.sentByThis (sender : StationId) (n : Notice) (s : State) : Bool :=
  sender == s.id && s.line.tx == .sending && s.outbox.inFlight == some n

/-- Whether a frame that ends now is one the station has heard from its start pulse: it is receiving one and
drives nothing, or it has lapsed in this very moment with the frame at its end (R28, R130, R136). -/
def LineController.hearing (l : LineController) : Bool := l.tx == .silent && (l.rx == .frame || l.closing)

/-- Whether the frame is one this station has received whole, from its start pulse, and found no error in
(R130, R136, R165, R166). -/
def State.received (sender : StationId) (n : Notice) (s : State) : Bool :=
  noticeWellFormed sender n && s.line.hearing

/-- The own notice's flight ends with its frame (R136, R137). -/
def State.endFlight (s : State) : State :=
  (s.withOutbox { s.outbox with inFlight := none }).withLine
    { s.line with attempts := 0, clashes := 0 }

/-- How a completing notice lands (R136, R141). -/
inductive Landing where
  /-- it does not complete at this station -/
  | unheard
  /-- this station's own notice, its flight ended -/
  | own (s : State)
  /-- a notice under this station's ID that it did not send, in JOINING or MEMBER -/
  | duplicate (s : State)
  /-- another notice -/
  | other (s : State)

/-- What this station makes of a frame that completes on the line: its own, a duplicate of its ID, a
notice to apply as its state directs, or none where it does not listen, did not receive the frame from
its start pulse, or found it in error (R130, R136, R141, R165). -/
def State.landing (sender : StationId) (n : Notice) (s : State) : Landing :=
  if s.listens = false then .unheard
  else if s.sentByThis sender n then .own (s.withLine s.line.frameEnded).endFlight
  else if s.received sender n then
    if sender = s.id ∧ s.onLine then .duplicate (s.withLine s.line.frameEnded)
    else .other (s.withLine s.line.frameEnded)
  else .unheard

/-- A notice other than a MARK completes: the station's own, another's, or a duplicate of its ID, which
faults the station and is not applied (R71, R136, R141). -/
def State.complete (sender : StationId) (n : Notice) (own other : State → State) (s : State) : State :=
  match s.landing sender n with
  | .unheard => s
  | .own s => own s
  | .duplicate s => s.enterFaulted .faultDuplicate
  | .other s => other s

/-! ### RSTN -/

/-- While RSTN is asserted the station holds its power-on condition and takes no event (R61). -/
def State.unlessHeld (f : State → State) (s : State) : State := if s.rstn then s else f s

/-! ### The passing of time -/

/-- A timer that runs up to its limit. -/
def runTimer (limit elapsed n : Nat) : Nat := min limit (elapsed + n)

/-- `n` oscillator periods pass: every timer that runs advances and holds at its limit (R22, R28, R33,
R69, R104, R130). -/
def State.pass (n : Nat) (s : State) : State :=
  let phase :=
    match s.timer.phase with
    | .unaligned => .unaligned
    | .inSlot k t => .inSlot k (runTimer s.slotTicks t n)
    | .inGap t a => .inGap (runTimer s.cycleTicks t n) a
  let founding :=
    if s.member.station = .joining then runTimer s.foundingTicks s.timer.founding n
    else s.timer.founding
  let wait :=
    if s.member.station = .lapsed then runTimer s.lapseTicks s.member.lapseWait n
    else s.member.lapseWait
  let filter :=
    if s.setupValid && s.sag.sagin != s.sag.condition then runTimer s.filterTicks s.sag.filter n
    else s.sag.filter
  let idle :=
    if s.listens && s.line.rx == .idle then runTimer Config.idleTicks s.line.idleTime n
    else s.line.idleTime
  let s := s.withTimer { s.timer with phase := phase, founding := founding }
  let s := s.withMember { s.member with lapseWait := wait }
  let s := s.withSag { s.sag with filter := filter }
  s.withLine { s.line with
    idleTime := idle
    awaitingIdle := s.line.awaitingIdle && decide (idle < Config.idleTicks)
    closing := s.line.closing && n == 0 }

/-! ### Reset -/

/-- The setup in force is kept or lost; everything else takes its reset value: what power-on, RSTN and
RESTART share (R37, R61, R75, R93, R116, R119, R142, R147, R157, R161). The queue of commands, the pins
stay, and so do the Snapshot Buffer's summaries and latch cycle number, which R161 leaves without meaning until the
next latch (DESIGN CHOICE, assumption 12). The sampled ID stays: at RESTART by R62, and from an RSTN assertion, or
POWER_ON under an asserted RSTN, to the release, where R62 gives it no value (DESIGN CHOICE, assumption 34). -/
def State.cleared (setup : Option Setup) (c : Cause) (s : State) : State :=
  { pending := s.pending
    rstn := s.rstn
    id := s.id
    setup := setup
    line := LineController.cleared
    outbox := Outbox.empty
    timer := CycleTimer.cleared
    map := SlotMap.cleared
    peers := PeerTable.cleared
    member := ⟨.offline, 0, false, 0, 0, c⟩
    demands := []
    planner := ClaimPlanner.cleared
    holdings := []
    sag := ⟨s.sag.sagin, 0, false, 0, false⟩
    output := ⟨.idle, false⟩
    port := HostPort.cleared
    notes := ⟨[], false⟩
    snap := { s.snap with valid := false, pending := false } }

end Sys2Proof.Machine
end

