-- ==== Sys2Proof/Machine/Cycle.lean ====
section
/-!
DEFINITION. The Cycle Timer's own events and the lapse wait (Sections 2 and 4), and the two points of the
load output (Section 7). Each command is the moment at which a timer reaches its limit: the time that is
missing passes first (assumption 3).
-/

namespace Sys2Proof.Machine

/-! ### Slots and the gap -/

/-- The slot in progress ends and the next begins with slot phase time 0; slot 1 brings a planning point
(R23, R24, R120). -/
def State.nextSlotBegins (k : SlotIndex) (s : State) : State :=
  (s.withTimer { s.timer with phase := .inSlot k 0, planningDue := k == 1 }).outputSlotStart

/-- The slot phase time reaches L in slots 0 to 62 (R23). -/
def State.slotEnds (s : State) : State :=
  match s.timer.phase with
  | .inSlot k t =>
    match nextSlot k with
    | some k' => (s.pass (s.slotTicks - t)).nextSlotBegins k'
    | none => s
  | _ => s

/-- SLOT_BOUNDARY (R23). -/
def execSlotBoundary (s : State) : Host.Outcome State Fault Refusal :=
  .next (s.unlessHeld State.slotEnds)

/-- The gap begins (R25): the awaited value is the cycle number plus one, the cycle end is handed on, the
output goes off (R126), and a MEMBER queues its MARK. -/
def State.gapBegins (s : State) : State :=
  let awaited := s.timer.cycle + 1
  let s := s.withTimer { s.timer with phase := .inGap 0 awaited, planningDue := false }
  let s := s.cycleEnd.outputOff
  if s.member.station = .member then s.queueMark awaited else s

/-- Slot 63 runs out (R25). -/
def State.cycleRunsOut (s : State) : State :=
  match s.timer.phase with
  | .inSlot k t => if k = 63 then (s.pass (s.slotTicks - t)).gapBegins else s
  | _ => s

/-- MARK_GAP_BEGIN (R25). -/
def execMarkGapBegin (s : State) : Host.Outcome State Fault Refusal :=
  .next (s.unlessHeld State.cycleRunsOut)

/-! ### Mark timeout, founding, lapse wait -/

/-- The gap timer reaches 64 × L at a MEMBER: it lapses with LAPSED_LINE. In any other state the timer
holds there and nothing else happens (R28). -/
def State.markTimesOut (s : State) : State :=
  match s.timer.phase with
  | .inGap t _ =>
    if s.member.station = .member then (s.pass (s.cycleTicks - t)).enterLapsed .lapsedLine else s
  | _ => s

/-- MARK_TIMEOUT (R28, R67). -/
def execMarkTimeout (s : State) : Host.Outcome State Fault Refusal :=
  .next (s.unlessHeld State.markTimesOut)

/-- The founding of a line (R34): MEMBER at cycle number 0, in the gap with awaited value 0, with a MARK
and a PRESENCE queued. -/
def State.found (s : State) : State :=
  let s := s.withMember { s.member with station := .member, standing := 0 }
  let s := s.withTimer ⟨.inGap 0 0, 0, 0, false⟩
  ((s.queueMark 0).queuePresence).noteState .none

/-- The founding timer runs out at a JOINING station (R33, R34). -/
def State.foundingRunsOut (s : State) : State :=
  if s.member.station = .joining then (s.pass (s.foundingTicks - s.timer.founding)).found else s

/-- FOUNDING (R34). -/
def execFounding (s : State) : Host.Outcome State Fault Refusal :=
  .next (s.unlessHeld State.foundingRunsOut)

/-- The lapse wait runs out: the station goes to JOINING (R69). -/
def State.lapseWaitRunsOut (s : State) : State :=
  if s.member.station = .lapsed then (s.pass (s.lapseTicks - s.member.lapseWait)).enterJoining else s

/-- LAPSE_WAIT_END (R69). -/
def execLapseWaitEnd (s : State) : Host.Outcome State Fault Refusal :=
  .next (s.unlessHeld State.lapseWaitRunsOut)

/-! ### The load output (Section 7) -/

/-- The decision of the ON point (R121): on if the station is MEMBER and quorate and holds the current
slot ACTIVE, idle in any other case. -/
def State.decideOn (k : SlotIndex) (s : State) : State :=
  if s.quorate ∧ s.activeAt k then s.withOutput { s.output with phase := .on } else s.outputOff

/-- Slot phase time reaches G in a slot that began in LEAD (R121). A slot that began in ON by carry has no
ON point (R120). -/
def State.onPointComes (s : State) : State :=
  match s.timer.phase with
  | .inSlot k t =>
    if s.output.phase = .lead then (s.pass (s.guardTicks - t)).decideOn k else s
  | _ => s

/-- ON_POINT (R121). -/
def execOnPoint (s : State) : Host.Outcome State Fault Refusal :=
  .next (s.unlessHeld State.onPointComes)

/-- Whether the ON period of slot `k` is carried into the next slot (R122). -/
def State.carries (k : SlotIndex) (s : State) : Bool := s.quorate && (nextSlot k).any s.activeAt

/-- The decision of the tail point (R122): carried into the next slot, or TAIL. -/
def State.decideTail (k : SlotIndex) (s : State) : State :=
  if s.carries k then s.withOutput ⟨.on, true⟩ else s.withOutput ⟨.tail, false⟩

/-- Slot phase time reaches L − G in a slot whose phase is ON (R122). At a tail point already taken, or in
another phase, nothing happens. -/
def State.tailPointComes (s : State) : State :=
  match s.timer.phase with
  | .inSlot k t =>
    if s.output.phase = .on ∧ s.output.carry = false then
      (s.pass (s.slotTicks - s.guardTicks - t)).decideTail k
    else s
  | _ => s

/-- TAIL_POINT (R122). -/
def execTailPoint (s : State) : Host.Outcome State Fault Refusal :=
  .next (s.unlessHeld State.tailPointComes)

end Sys2Proof.Machine
end

