-- ==== Sys2Proof/Machine/Layout.lean ====
section
/-!
DEFINITION. The layouts of Section 10.4: response frames as SDO carries them, STATUS data, notification
records, snapshot pages, peer pages and the demand queue.
-/

namespace Sys2Proof.Machine

/-- A number as one byte. -/
def byteOf (v : Nat) : Byte := BitVec.ofNat 8 v

/-- A number as two bytes, high byte first. -/
def wordBytes (v : Nat) : List Byte := [byteOf (v / 256), byteOf (v % 256)]

/-- A flag as 0 or 1. -/
def flagByte (b : Bool) : Byte := if b then 1 else 0

/-- Table 10-8. -/
def Status.code : Status → Byte
  | .ok => 0
  | .wrongState => 1
  | .badParam => 2
  | .full => 3
  | .notFound => 4
  | .notReady => 5
  | .badFrame => 6
  | .empty => 7

/-- STATUS byte 0 (Table 10-10). -/
def StationState.code : StationState → Nat
  | .offline => 0
  | .joining => 1
  | .member => 2
  | .lapsed => 3
  | .leaving => 4
  | .faulted => 5

/-- STATUS byte 9 (Table 10-10). -/
def Cause.code : Cause → Nat
  | .none => 0
  | .powerOn => 1
  | .hostRestart => 2
  | .hostLeave => 3
  | .lapsedSend => 4
  | .lapsedLine => 5
  | .faultParameter => 6
  | .faultDuplicate => 7
  | .faultReceive => 8

/-- A response frame's bytes: command code, status code, data (R168). -/
def Response.bytes (r : Response) : List Byte := r.code :: r.status.code :: r.data

/-- The byte that SDO carries at place `i` of a transaction: the response's, and FFh after its end; FFh
throughout if the response is not ready yet (R149). -/
def State.sdo (s : State) (ready : Bool) (i : Nat) : Byte :=
  if ready then s.port.response.bytes.getD i 0xFF else 0xFF

/-- The level of SDO at bit `i` of a transaction, or none where it is high-impedance, which it is while CSN is
high. While CSN is low it carries the bytes most significant bit first; under an asserted RSTN, and in a
transaction that a reset has caught, the spec gives it no content (R148, R149, assumption 32). -/
def State.sdoBit (s : State) (csnLow ready : Bool) (i : Nat) : Option Bool :=
  if csnLow then
    some (if s.rstn || s.port.abandoned then Config.sdoUnderReset i
      else (s.sdo ready (i / 8)).getMsbD (i % 8))
  else none

/-- STATUS data (Tables 9-4 and 10-10). -/
def State.statusData (s : State) : List Byte :=
  [byteOf s.member.station.code,
    byteOf (s.quorate.toNat + 2 * s.sag.condition.toNat + 4 * s.notes.overflow.toNat
      + 8 * s.setupValid.toNat),
    byteOf s.reportedLive]
  ++ wordBytes s.timer.cycle.toNat
  ++ [byteOf s.sag.derateRemaining, byteOf s.outbox.occupancy, byteOf s.demands.length,
    byteOf s.notes.records.length, byteOf s.member.exitCause.code]

/-- The kind byte of a notification record (Table 10-11). -/
def NoteBody.kindCode : NoteBody → Byte
  | .served _ _ => 1
  | .short _ _ _ => 2
  | .done _ _ _ => 3
  | .yielded _ _ => 4
  | .state _ _ _ => 5
  | .derate _ _ => 6

/-- The tag byte: 00h where the kind has none. -/
def NoteBody.tag : NoteBody → Byte
  | .served t _ => t
  | .short t _ _ => t
  | .done t _ _ => t
  | _ => 0

/-- The count field. -/
def NoteBody.count : NoteBody → Nat
  | .served _ n => n
  | .short _ n _ => n
  | .done _ n _ => n
  | .yielded n _ => n
  | .state _ _ n => n
  | .derate n _ => n

/-- The code byte (Table 10-12). -/
def NoteBody.code : NoteBody → Byte
  | .served _ _ => 0
  | .short _ _ .sag => 1
  | .short _ _ .contest => 2
  | .short _ _ .quorum => 3
  | .done _ _ .completed => 1
  | .done _ _ .withdrawn => 2
  | .done _ _ .replaced => 3
  | .done _ _ .left => 4
  | .yielded _ .sagShared => 1
  | .yielded _ .sagLocal => 2
  | .yielded _ .contest => 3
  | .yielded _ .quorum => 4
  | .state st c _ => byteOf (16 * st.code + c.code)
  | .derate _ .started => 1
  | .derate _ .ended => 2

/-- A notification record's seven bytes (Table 10-11). -/
def Note.bytes (n : Note) : List Byte :=
  n.body.kindCode :: wordBytes n.cycle.toNat ++ n.body.tag :: wordBytes n.body.count ++ [n.body.code]

/-- The own state byte of a slot summary. -/
def ownStateByte : Option HoldState → Byte
  | none => 0
  | some .pending => 1
  | some .active => 2
  | some .releasing => 3

/-- A slot summary's four bytes. -/
def SlotSummary.bytes (x : SlotSummary) : List Byte :=
  [byteOf x.committed, byteOf x.holders, byteOf x.orphanUnits, ownStateByte x.own]

/-- SNAP_READ data for a page: the page, the latch cycle number, and the summaries of slots 8p to 8p + 7
in ascending index (R160, Table 10-9). -/
def SnapshotBuffer.pageData (b : SnapshotBuffer) (page : Nat) : List Byte :=
  byteOf page :: wordBytes b.cycle.toNat
    ++ ((b.slots.cells.drop (8 * page)).take 8).flatMap SlotSummary.bytes

/-- The LIVE peers in ascending station ID (R162). -/
def State.livePeers (s : State) : List StationId := allStations.filter fun p => (s.peers.get p).live

/-- A peer entry's five bytes. -/
def State.peerBytes (s : State) (p : StationId) : List Byte :=
  let e := s.peers.get p
  [byteOf p.val, flagByte (e.role == .member), byteOf e.units, byteOf e.priority.val, byteOf e.silence]

/-- PEERS_READ data for a page: the page, the entry count and up to eight entries; unused entries read
00h (R162, R168). -/
def State.peersPage (s : State) (page : Nat) : List Byte :=
  let ps := (s.livePeers.drop (8 * page)).take 8
  byteOf page :: byteOf ps.length
    :: (ps.flatMap s.peerBytes ++ List.replicate (5 * (8 - ps.length)) 0)

/-- A demand record's ten bytes; the served flag is reported for the head alone (R163). -/
def Demand.bytes (d : Demand) (isHead : Bool) : List Byte :=
  [d.tag, byteOf d.want, byteOf d.floor, byteOf d.priority.val, flagByte (d.placement == .spread)]
    ++ wordBytes d.span ++ wordBytes (if d.span = 0 then 0 else d.remaining)
    ++ [flagByte (isHead && d.served)]

/-- QUEUE_READ data: the demand count and eight records in queue order; unused records read 00h (R163,
R168). -/
def State.queueData (s : State) : List Byte :=
  let records :=
    match s.demands with
    | [] => []
    | d :: ds => d.bytes true ++ ds.flatMap fun d => d.bytes false
  byteOf s.demands.length :: (records ++ List.replicate (10 * (8 - s.demands.length)) 0)

end Sys2Proof.Machine
end

