-- ==== Sys2Proof/Machine/HostCommands.lean ====
section
/-!
DEFINITION. The host commands (Sections 4, 5, 9 and 10.3), each taken at the rise of CSN that ends a
transaction, as one event, and UNKNOWN_COMMAND_CODE. A command writes the response slot whatever its answer;
every answer but OK leaves the rest of the station as it was (R149, R150).
-/

namespace Sys2Proof.Machine

/-- The response slot written (R149, R168). -/
def State.respond (code : Byte) (status : Status) (data : List Byte) (s : State) : State :=
  s.withPort { s.port with response := ⟨code, status, data⟩ }

/-- The rise of CSN that ends the transaction `f`, handed in as the row `row`. While RSTN is asserted, and for a
transaction that a reset has caught, no command is taken; such a rise ends the abandoned transaction (R148).
A transaction of no whole byte carries no frame, and one whose first byte names another row is not this row's
event: nothing is taken and nothing written (R150). Any other is judged by `judged`. -/
def State.transaction (row : Instr) (f : HostFrame) (judged : State → State) (s : State) : State :=
  s.unlessHeld fun s =>
    if s.port.abandoned then s.withPort { s.port with abandoned := false }
    else if commandOf f = some row then judged s
    else s

/-- One command at the end of its transaction: `row` with the code byte, the field bytes and the execution that
Table 10-7 and its owning section give it. A frame that does not fit is answered BAD_FRAME (R150); any other
is handed to the command. -/
def State.command (row : Instr) (code : Byte) (fields : Nat) (f : HostFrame) (run : State → State)
    (s : State) : State :=
  s.transaction row f fun s => if badFrame fields f then s.respond code .badFrame [] else run s

/-- NOP (R151). -/
def execNop (f : HostFrame) (s : State) : Host.Outcome State Fault Refusal :=
  .next (s.command (.nop f) 0x00 0 f fun s => s.respond 0x00 .ok [])

/-! ### SETUP (R152) -/

/-- An accepted record replaces the held one; LOADOUT goes to the off level of its polarity with it
(R118), and the Sag Monitor starts from the absent condition. -/
def State.acceptSetup (r : Setup) (s : State) : State :=
  ((s.withSetup (some r)).withSag
    { s.sag with filter := 0, condition := false, derateRemaining := 0, windowOpen := false }).outputOff

/-- The twelve bytes in the staging are tested together; the staging is empty afterwards (R152). -/
def State.judgeStaging (s : State) : State :=
  let emptied := s.withPort { s.port with staging := none }
  match s.port.staging.bind stagedSetup with
  | some r => (emptied.acceptSetup r).respond 0x01 .ok []
  | none => emptied.respond 0x01 .badParam []

/-- SETUP as a command (R152, R167): the state test comes before the field tests. -/
def State.setupCommand (f : HostFrame) (s : State) : State :=
  if s.member.station = .offline then
    (s.withPort { s.port with staging := some (f.fields.take 12) }).judgeStaging
  else s.respond 0x01 .wrongState []

/-- SETUP (R152). -/
def execSetup (f : HostFrame) (s : State) : Host.Outcome State Fault Refusal :=
  .next (s.command (.setup f) 0x01 12 f fun s => s.setupCommand f)

/-! ### ENTER, LEAVE, RESTART (Section 4) -/

/-- ENTER as a command (R63). -/
def State.enterCommand (s : State) : State :=
  if s.member.station = .offline then
    if s.setupValid then s.enterJoining.respond 0x02 .ok [] else s.respond 0x02 .notReady []
  else s.respond 0x02 .wrongState []

/-- ENTER (R63). -/
def execEnter (f : HostFrame) (s : State) : Host.Outcome State Fault Refusal :=
  .next (s.command (.enter f) 0x02 0 f fun s => s.enterCommand)

/-- The effects of LEAVE in JOINING and MEMBER (R73). -/
def State.beginLeaving (s : State) : State :=
  let ended := s.demands
  let s := s.withMember { s.member with station := .leaving, exitCause := .hostLeave }
  let s := ((s.withMap (s.map.removeLiveOf s.id)).withHoldings []).outputOff
  let s := (s.withOutbox s.outbox.flush).queueLeave
  let s := (s.withPlanner ClaimPlanner.cleared).withTimer s.timer.foundingStopped
  ((s.withDemands []).noteDone .left ended).noteState .hostLeave

/-- LEAVE as a command (R73). -/
def State.leaveCommand (s : State) : State :=
  if s.onLine then s.beginLeaving.respond 0x03 .ok [] else s.respond 0x03 .wrongState []

/-- LEAVE (R73). -/
def execLeave (f : HostFrame) (s : State) : Host.Outcome State Fault Refusal :=
  .next (s.command (.leave f) 0x03 0 f fun s => s.leaveCommand)

/-- The effects of RESTART (R75): the setup and the ID stay, everything else takes its reset value, and
the one STATE record is queued. -/
def State.restart (s : State) : State := (s.cleared s.setup .hostRestart).noteState .hostRestart

/-- RESTART (R75). -/
def execRestart (f : HostFrame) (s : State) : Host.Outcome State Fault Refusal :=
  .next (s.command (.restart f) 0x04 0 f fun s => s.restart.respond 0x04 .ok [])

/-! ### DEMAND and WITHDRAW (Section 5) -/

/-- An accepted append: the record joins at the end, and an empty queue gains a head (R83). -/
def State.appendDemand (d : Demand) (s : State) : State :=
  let wasEmpty := s.demands.isEmpty
  let s := s.withDemands (s.demands ++ [d])
  if wasEmpty then s.headChange else s

/-- DEMAND in the append form as a command, its checks in the order of R83. -/
def State.appendCommand (f : HostFrame) (s : State) : State :=
  if s.member.station = .faulted then s.respond 0x05 .wrongState []
  else
    match demandFrom f with
    | none => s.respond 0x05 .badParam []
    | some d =>
      if s.demands.any fun e => e.tag == d.tag then s.respond 0x05 .badParam []
      else if Config.demandCapacity ≤ s.demands.length then s.respond 0x05 .full []
      else (s.appendDemand d).respond 0x05 .ok []

/-- DEMAND (append) (R83). -/
def execDemandAppend (f : HostFrame) (s : State) : Host.Outcome State Fault Refusal :=
  .next (s.command (.demandAppend f) 0x05 7 f fun s => s.appendCommand f)

/-- An accepted replace: every held demand ends with DONE (REPLACED), and the new one is the head (R84). -/
def State.replaceDemands (d : Demand) (s : State) : State :=
  ((s.noteDone .replaced s.demands).withDemands [d]).headChange

/-- DEMAND in the replace form as a command (R84): never refused with FULL or for its tag. -/
def State.replaceCommand (f : HostFrame) (s : State) : State :=
  if s.member.station = .faulted then s.respond 0x06 .wrongState []
  else
    match demandFrom f with
    | none => s.respond 0x06 .badParam []
    | some d => (s.replaceDemands d).respond 0x06 .ok []

/-- DEMAND (replace) (R84). -/
def execDemandReplace (f : HostFrame) (s : State) : Host.Outcome State Fault Refusal :=
  .next (s.command (.demandReplace f) 0x06 7 f fun s => s.replaceCommand f)

/-- The demand with a tag, if one is held. -/
def State.demandWithTag (tag : Byte) (s : State) : Option Demand :=
  s.demands.find? fun d => d.tag == tag

/-- A held demand is removed with DONE (WITHDRAWN); the head change follows if it was the head (R85). -/
def State.withdrawDemand (d : Demand) (s : State) : State :=
  let wasHead := (s.demands.head?.map Demand.tag) == some d.tag
  let s := (s.withDemands (s.demands.filter fun e => !(e.tag == d.tag))).note
    (.done d.tag d.remaining .withdrawn)
  if wasHead then s.headChange else s

/-- WITHDRAW as a command (R85). -/
def State.withdrawCommand (f : HostFrame) (s : State) : State :=
  match s.demandWithTag (fieldByte f 0) with
  | none => s.respond 0x07 .notFound []
  | some d => (s.withdrawDemand d).respond 0x07 .ok []

/-- WITHDRAW (R85). -/
def execWithdraw (f : HostFrame) (s : State) : Host.Outcome State Fault Refusal :=
  .next (s.command (.withdraw f) 0x07 1 f fun s => s.withdrawCommand f)

/-! ### Reading (Section 9) -/

/-- STATUS as a command: the values are read, then the overflow flag is cleared and the exit cause record
set to NONE (R153). -/
def State.statusCommand (s : State) : State :=
  let data := s.statusData
  ((s.withNotes { s.notes with overflow := false }).withMember
    { s.member with exitCause := .none }).respond 0x08 .ok data

/-- STATUS (R153). -/
def execStatus (f : HostFrame) (s : State) : Host.Outcome State Fault Refusal :=
  .next (s.command (.status f) 0x08 0 f fun s => s.statusCommand)

/-- NEXT_NOTE as a command (R156). -/
def State.nextNoteCommand (s : State) : State :=
  match s.notes.records with
  | [] => s.respond 0x09 .empty []
  | n :: ns => (s.withNotes { s.notes with records := ns }).respond 0x09 .ok n.bytes

/-- NEXT_NOTE (R156). -/
def execNextNote (f : HostFrame) (s : State) : Host.Outcome State Fault Refusal :=
  .next (s.command (.nextNote f) 0x09 0 f fun s => s.nextNoteCommand)

/-- SNAP as a command (R158). -/
def State.snapCommand (s : State) : State :=
  if s.onLine then
    (s.withSnap { s.snap with valid := false, pending := true }).respond 0x0A .ok []
  else s.respond 0x0A .wrongState []

/-- SNAP (R158). -/
def execSnap (f : HostFrame) (s : State) : Host.Outcome State Fault Refusal :=
  .next (s.command (.snap f) 0x0A 0 f fun s => s.snapCommand)

/-- SNAP_READ as a command (R160). -/
def State.snapReadCommand (page : Nat) (s : State) : State :=
  if 7 < page then s.respond 0x0B .badParam []
  else if s.snap.valid then s.respond 0x0B .ok (s.snap.pageData page)
  else s.respond 0x0B .notReady []

/-- SNAP_READ (R160). -/
def execSnapRead (f : HostFrame) (s : State) : Host.Outcome State Fault Refusal :=
  .next (s.command (.snapRead f) 0x0B 1 f fun s => s.snapReadCommand (fieldNat f 0))

/-- PEERS_READ as a command (R162). -/
def State.peersReadCommand (page : Nat) (s : State) : State :=
  if 3 < page then s.respond 0x0C .badParam [] else s.respond 0x0C .ok (s.peersPage page)

/-- PEERS_READ (R162). -/
def execPeersRead (f : HostFrame) (s : State) : Host.Outcome State Fault Refusal :=
  .next (s.command (.peersRead f) 0x0C 1 f fun s => s.peersReadCommand (fieldNat f 0))

/-- QUEUE_READ (R163). -/
def execQueueRead (f : HostFrame) (s : State) : Host.Outcome State Fault Refusal :=
  .next (s.command (.queueRead f) 0x0D 0 f fun s => s.respond 0x0D .ok s.queueData)

/-- UNKNOWN_COMMAND_CODE (R150, R168): BAD_FRAME with the code that was clocked in. -/
def execUnknownCommandCode (code : Byte) (f : HostFrame) (s : State) :
    Host.Outcome State Fault Refusal :=
  .next (s.transaction (.unknownCommandCode code f) f fun s => s.respond code .badFrame [])

end Sys2Proof.Machine
end

