-- ==== Sys2Proof/Machine/Line.lean ====
section
/-!
DEFINITION. The Line Controller's own events (Section 8): attempts, arbitration, receive errors, readback
mismatches, BREAK, transmit failure, and the clash and receive faults.
-/

namespace Sys2Proof.Machine

/-! ### Taking a notice into flight (R144) -/

/-- The notice the Outbox takes into flight: the waiting one with the lowest kind code, with the fields
its kind takes at the start of its first attempt (R26, R42, R98, R144), and the Outbox without it. The
first attempt of a MARK begins only at a MEMBER, and of a CLAIM only while it is quorate (R76, R142). -/
def State.nextNotice (s : State) : Option (Notice × Outbox) :=
  let o := s.outbox
  let c := s.cfg
  match o.mark, s.member.station with
  | some cycle, .member =>
    some (.mark ⟨cycle, c.slotLength, c.budget, c.deratedBudget, c.period, c.expiry, c.quorum,
      c.derateHold, s.sag.derateRemaining - 1⟩, { o with mark := none })
  | _, _ =>
    if o.sag then some (.sag, { o with sag := false })
    else
      match o.contest with
      | some (t, x) => some (.contest t x, { o with contest := none })
      | none =>
        match o.release with
        | some x => some (.release x, { o with release := none })
        | none =>
          if o.leave then some (.leave, { o with leave := false })
          else if o.presence then
            some (.presence
              ⟨if s.member.station = .member then .member else .joining, s.priority, c.load,
                s.map.heldBy s.id⟩, { o with presence := false })
          else
            match o.claim with
            | some x =>
              if s.quorate then some (.claim ⟨c.load, s.priority, x⟩, { o with claim := none })
              else none
            | none => none

/-- The notice this station would send if it may begin an attempt: the one in flight, else the next one
taken into flight, its counts at 0 (R137, R139, R144). -/
def State.readyNotice (s : State) : Option (Outbox × LineController) :=
  match s.outbox.inFlight with
  | some _ => some (s.outbox, s.line)
  | none =>
    match s.nextNotice with
    | some (n, o) => some ({ o with inFlight := some n }, { s.line with attempts := 0, clashes := 0 })
    | none => none

/-- Whether the line stands released and the receiver counts its idle time, and no attempt of this station is
in progress or still to be counted (R130, R131). -/
def LineController.free (l : LineController) : Bool :=
  l.rx == .idle && l.tx == .silent && l.broken.isNone

/-- An attempt begins: the station sends, and reads the line as a frame (R131, R144). -/
def State.beginAttempt (o : Outbox) (l : LineController) (s : State) : State :=
  (s.withOutbox o).withLine
    { l with rx := .frame, tx := .sending, idleTime := 0, awaitingIdle := false, broken := none }

/-- The idle count runs up to `early` periods before its end; where it stands there already, no time passes. -/
def State.idleUntil (early : Nat) (s : State) : State :=
  s.pass (Config.idleTicks - early - s.line.idleTime)

/-- Twelve bit times of idle have passed and a notice is ready: an attempt begins, and at once where the line has
stood idle that long (R131, R144). -/
def State.attemptStarts (s : State) : State :=
  if s.drives ∧ s.line.free then
    let s' := s.idleUntil 0
    match s'.readyNotice with
    | some (o, l) => s'.beginAttempt o l
    | none => s
  else s

/-- ATTEMPT_START (R144). -/
def execAttemptStart (s : State) : Host.Outcome State Fault Refusal :=
  .next (s.unlessHeld State.attemptStarts)

/-! ### Frames of other stations -/

/-- Another station's start pulse, `early` periods before the end of this station's own idle count (R130,
R131). A station that is not yet past its first idle treats the edge as a busy line; one with a notice
ready whose idle count would end within 5 µs joins the start pulse; any other receives the frame. -/
def State.startPulse (early : Nat) (s : State) : State :=
  if s.listens ∧ s.line.free then
    let s := s.idleUntil early
    let left := Config.idleTicks - s.line.idleTime
    if s.line.awaitingIdle then s.withLine { s.line with idleTime := 0 }
    else
      let receive := s.withLine { s.line with rx := .frame, idleTime := 0 }
      if s.drives ∧ left ≤ Config.joinTicks then
        match s.readyNotice with
        | some (o, l) => s.beginAttempt o l
        | none => receive
      else receive
  else s

/-- FRAME_RECEPTION_BEGIN (R130, R131). -/
def execFrameReceptionBegin (early : Nat) (s : State) : Host.Outcome State Fault Refusal :=
  .next (s.unlessHeld fun s => s.startPulse early)

/-- A sender reads 0 where it sent 1 in the key: it stops driving and listens on; the notice stays in
flight and its counts are unchanged (R132, R139). -/
def State.losesArbitration (s : State) : State :=
  if s.line.tx = .sending then s.withLine { s.line with tx := .silent } else s

/-- ARBITRATION_LOST (R132). -/
def execArbitrationLost (s : State) : Host.Outcome State Fault Refusal :=
  .next (s.unlessHeld State.losesArbitration)

/-! ### Errors and BREAK -/

/-- A listener detects a receive error: in JOINING, MEMBER and LEAVING it drives BREAK at once; a LAPSED
station discards the frame and waits for the next idle (R134, R135, R166). -/
def State.receiveErrorSeen (e : ReceiveError) (s : State) : State :=
  if s.line.hearing = true ∧ isReceiveError e = true then
    if s.drives then s.withLine { s.line with tx := .breaking true }
    else if s.listens then
      s.withLine { s.line with rx := .idle, idleTime := 0, awaitingIdle := true, closing := false }
    else s
  else s

/-- RECEIVE_ERROR (R134). -/
def execReceiveError (e : ReceiveError) (s : State) : Host.Outcome State Fault Refusal :=
  .next (s.unlessHeld fun s => s.receiveErrorSeen e)

/-- A readback mismatch is a clash when a 1 was sent, a 0 read, and the line returned to recessive within
the bit time, as for a valid 0 of another station; any other is a line fault (R139). -/
def isClash (sent read returned : Bool) : Bool := sent && !read && returned

/-- A sender reads back a bit it did not send: it drives BREAK, and its attempt ends in BREAK (R139). -/
def State.mismatchSeen (sent read returned : Bool) (s : State) : State :=
  if s.line.tx = .sending ∧ sent ≠ read then
    s.withLine { s.line with tx := .breaking false, broken := some (isClash sent read returned) }
  else s

/-- READBACK_MISMATCH (R139). -/
def execReadbackMismatch (sent read returned : Bool) (s : State) :
    Host.Outcome State Fault Refusal :=
  .next (s.unlessHeld fun s => s.mismatchSeen sent read returned)

/-- A receive-fault count of 16 faults a JOINING or MEMBER station (R140). -/
def State.receiveFaultIfDue (s : State) : State :=
  if s.onLine ∧ Config.receiveFaultLimit ≤ s.line.receiveFaults then s.enterFaulted .faultReceive
  else s

/-- A BREAK ends and the line is released, from where idle time counts afresh (R130). The station's own BREAK
ends after three bit times, and one for a receive error raises the receive-fault count, which holds at 16 (R135,
R140). The release of a BREAK that another station drove is this event too (DESIGN CHOICE, assumption 10). -/
def State.breakEnds (s : State) : State :=
  match s.line.tx with
  | .breaking forReceiveError =>
    let count :=
      if forReceiveError then min Config.receiveFaultLimit (s.line.receiveFaults + 1)
      else s.line.receiveFaults
    let s := s.withLine
      { s.line with rx := .idle, idleTime := 0, tx := .silent, receiveFaults := count }
    if forReceiveError then s.receiveFaultIfDue else s
  | _ => if s.listens ∧ s.line.rx = .brk then s.withLine { s.line with rx := .idle, idleTime := 0 } else s

/-- BREAK_END (R135). -/
def execBreakEnd (s : State) : Host.Outcome State Fault Refusal :=
  .next (s.unlessHeld State.breakEnds)

/-- The line is dominant for more than two bit times: the frame in progress is discarded, and a sender
stops driving, its attempt ended in BREAK (R135, R136, R137). The station's own BREAK runs on. -/
def State.breakSeen (s : State) : State :=
  if s.listens then
    match s.line.tx with
    | .sending => s.withLine { s.line with rx := .brk, closing := false, tx := .silent, broken := some false }
    | _ => s.withLine { s.line with rx := .brk, closing := false }
  else s

/-- LINE_BREAK_SEEN (R136). -/
def execLineBreakSeen (s : State) : Host.Outcome State Fault Refusal :=
  .next (s.unlessHeld State.breakSeen)

/-! ### Transmit failure and clash (R137, R138, R139) -/

/-- While the station's own BREAK runs its three bit times, no count has an effect (R135): an attempt that it
breaks ends with it (DEDUCED, assumption 21). -/
def State.unlessBreaking (f : State → State) (s : State) : State :=
  match s.line.tx with
  | .breaking _ => s
  | _ => f s

/-- What follows the failure of a notice (Table 8-2). -/
def State.failureRule (n : Notice) (s : State) : State :=
  match n with
  | .mark _ =>
    match s.timer.phase, s.member.station with
    | .inGap _ awaited, .member => s.queueMark awaited
    | _, _ => s
  | .sag => if s.onLine ∧ s.sag.condition = true then s.queueSag else s
  | .contest _ _ => s
  | .release x => if s.onLine then s.queueRelease x else s
  | .leave => if s.member.station = .leaving then s.endLeaving else s
  | .presence _ => s
  | .claim _ => if s.onLine then s.endClaim else s

/-- The notice in flight has failed when four of its attempts have ended in BREAK: it leaves flight, and
its kind's failure rule applies in the same event (R137, R138). -/
def State.failIfDue (s : State) : State :=
  match s.outbox.inFlight with
  | some n => if Config.attemptLimit ≤ s.line.attempts then s.endFlight.failureRule n else s
  | none => s

/-- A clash count of 2 faults a JOINING or MEMBER station (R139). -/
def State.clashFaultIfDue (s : State) : State :=
  if s.onLine ∧ Config.clashLimit ≤ s.line.clashes then s.enterFaulted .faultDuplicate else s

/-- An attempt of the notice in flight ends in BREAK: the attempt count rises by one, and the clash count
rises by one, holding at 2, or returns to 0 (R137, R139). A clash count of 2 faults the station; a fourth
attempt fails the notice. -/
def State.attemptEndsInBreak (clash : Bool) (s : State) : State :=
  let l := s.line
  let l := { l with
    broken := none
    attempts := min Config.attemptLimit (l.attempts + 1)
    clashes := if clash then min Config.clashLimit (l.clashes + 1) else 0 }
  ((s.withLine l).clashFaultIfDue).failIfDue

/-- The end of an attempt that the line's BREAK has broken. A sender that has not seen the BREAK before
sees it here and stops driving (R137). -/
def State.attemptBreaks (s : State) : State :=
  match s.outbox.inFlight, s.line.broken with
  | some _, some clash => s.attemptEndsInBreak clash
  | some _, none =>
    if s.line.tx = .sending then
      (s.withLine { s.line with rx := .brk, tx := .silent }).attemptEndsInBreak false
    else s
  | none, _ => s

/-- ATTEMPT_BROKEN (R137). -/
def execAttemptBroken (s : State) : Host.Outcome State Fault Refusal :=
  .next (s.unlessHeld fun s => s.unlessBreaking State.attemptBreaks)

/-- TRANSMIT_FAILURE (R138). -/
def execTransmitFailure (s : State) : Host.Outcome State Fault Refusal :=
  .next (s.unlessHeld fun s => s.unlessBreaking State.failIfDue)

/-- CLASH_FAULT (R139). -/
def execClashFault (s : State) : Host.Outcome State Fault Refusal :=
  .next (s.unlessHeld fun s => s.unlessBreaking State.clashFaultIfDue)

/-- RECEIVE_FAULT (R140). -/
def execReceiveFault (s : State) : Host.Outcome State Fault Refusal :=
  .next (s.unlessHeld fun s => s.unlessBreaking State.receiveFaultIfDue)

end Sys2Proof.Machine
end

