-- ==== Sys2Proof/Machine/Sag.lean ====
section
/-!
DEFINITION. The Sag Monitor (Section 6): the SAGIN filter, the action when the condition becomes present,
a SAG's completion with its yield designation, and the window.
-/

namespace Sys2Proof.Machine

/-- SAGIN changes its level: away from the condition's level the filter timer starts at 0, back to it the
timer stops and returns to 0. The filter runs only while a setup is held (R104, R105). -/
def State.saginMoves (asserted : Bool) (s : State) : State :=
  if asserted = s.sag.sagin then s else s.withSag { s.sag with sagin := asserted, filter := 0 }

/-- SAGIN_CHANGE (R104). The pin has its level in every state. -/
def execSaginChange (asserted : Bool) (s : State) : Host.Outcome State Fault Refusal :=
  .next (s.saginMoves asserted)

/-- The local shed and the local hold (R114): at a MEMBER station every PENDING and ACTIVE entry becomes
RELEASING, then YIELDED and SHORT are queued; at a JOINING station only the hold is set. Where a shed and a mark come
at the same moment, R115 gives the same notifications in either order, and R30, R90, R92 and R114, taken in the order
of the queue, do not; the model follows these (DESIGN CHOICE, assumption 35). -/
def State.localShed (s : State) : State :=
  let n := s.heldCount
  let isMember := s.member.station = .member
  let s := if isMember then s.releaseHoldings fun _ => true else s
  let s := (s.withPlanner { s.planner with localHold := s.cfg.derateHold }).setYieldHold
  if isMember then (if n = 0 then s else s.note (.yielded n .sagLocal)).short .sag else s

/-- The action when the sag condition becomes present (Table 6-2). -/
def State.sagAppears (s : State) : State :=
  if s.onLine then
    match s.cfg.sagMode with
    | .shared => s.queueSag
    | .localOnly => s.localShed
  else s

/-- The filter timer reaches S: the condition changes, the timer returns to 0, and a condition that
becomes present has its action (R104, R106). -/
def State.conditionChanges (s : State) : State :=
  if s.setupValid && s.sag.sagin != s.sag.condition then
    let s := s.pass (s.filterTicks - s.sag.filter)
    let s := s.withSag { s.sag with condition := s.sag.sagin, filter := 0 }
    if s.sag.condition then s.sagAppears else s
  else s

/-- SAG_CONDITION_CHANGE (R104, R106). -/
def execSagConditionChange (s : State) : Host.Outcome State Fault Refusal :=
  .next (s.unlessHeld State.conditionChanges)

/-- The yield designation computed on the station's own map (R110). -/
def State.designatedHere (s : State) : SlotSet :=
  s.map.designatedSlots s.cfg.deratedBudget s.yieldPriority s.id

/-- What the designation asks of this station (R111): release, yield hold, YIELDED, then SHORT. -/
def State.sagYield (s : State) : State :=
  let x := s.designatedHere
  if x = 0 then s
  else
    let n := (s.heldWhere (slotIn x)).length
    let s := (s.releaseHoldings (slotIn x)).setYieldHold
    (if n = 0 then s else s.note (.yielded n .sagShared)).shortIfBelow .sag

/-- A SAG completes at a JOINING or MEMBER station (R109): the window begins or is extended, and a MEMBER
yields as designated. -/
def State.sagApplies (s : State) : State :=
  if s.onLine then
    let began := s.sag.derateRemaining = 0
    let s := s.withSag { s.sag with derateRemaining := s.cfg.derateHold, windowOpen := true }
    let s := if began then s.note (.derate s.cfg.derateHold .started) else s
    if s.member.station = .member then s.sagYield else s
  else s

/-- SAG_COMPLETE (R109, R110, R111): the sender's own included. -/
def execSagComplete (sender : StationId) (s : State) : Host.Outcome State Fault Refusal :=
  .next (s.unlessHeld fun s => s.complete sender .sag State.sagApplies State.sagApplies)

/-- The end of a window (R112): DERATE (END, 0). -/
def State.endWindow (s : State) : State :=
  (s.withSag { s.sag with windowOpen := false }).note (.derate 0 .ended)

/-- The Sag Monitor's part of a mark: derate remaining takes the MARK's field, and the window ends or
begins by it (R112). -/
def State.derateFromMark (field : Nat) (s : State) : State :=
  let before := s.sag.derateRemaining
  let s := s.withSag { s.sag with derateRemaining := field }
  if 0 < before ∧ field = 0 then s.endWindow
  else if before = 0 ∧ 0 < field then
    (s.withSag { s.sag with windowOpen := true }).note (.derate field .started)
  else s

/-- WINDOW_END (R112): derate remaining has reached 0 in an open window. The MARK's completion takes it in
the same event; see assumption 6. -/
def State.windowEnds (s : State) : State :=
  if s.onLine ∧ s.sag.windowOpen = true ∧ s.sag.derateRemaining = 0 then s.endWindow else s

/-- WINDOW_END (R112). -/
def execWindowEnd (s : State) : Host.Outcome State Fault Refusal :=
  .next (s.unlessHeld State.windowEnds)

end Sys2Proof.Machine
end

