-- ==== Sys2Proof/Machine/Mark.lean ====
section
/-!
DEFINITION. MARK_COMPLETE, whole: the end of the cycle in progress, the alignment, and every block's part
of the mark in the order the world takes them (Table 2-3); and the rows for what comes about inside a
mark, each acting where its own condition stands.
-/

namespace Sys2Proof.Machine

/-! ### Alignment (R30, R31) -/

/-- This station's own MARK that has not completed is withdrawn, waiting or in flight (R30, R146). -/
def State.withdrawMark (s : State) : State :=
  let s := s.withOutbox { s.outbox with mark := none }
  match s.outbox.inFlight with
  | some (.mark _) =>
    (s.withOutbox { s.outbox with inFlight := none }).withLine
      { s.line with attempts := 0, clashes := 0, broken := none }
  | _ => s

/-- A cycle in progress is truncated: its end is handed on before slot 0 begins (R31). In the gap it was
handed on when the gap began, and an UNALIGNED timer had no cycle. -/
def State.truncate (s : State) : State :=
  match s.timer.phase with
  | .inSlot _ _ => s.cycleEnd
  | _ => s

/-- Slot 0 begins with the MARK's cycle number, the founding timer of a JOINING station restarts, the own
MARK is withdrawn, and the output is off with its carry flag clear as slot 0 begins (R30, R126). -/
def State.align (c : CycleNumber) (s : State) : State :=
  let founding := if s.member.station = .joining then 0 else s.timer.founding
  let s := s.withTimer
    { phase := .inSlot 0 0, cycle := c, founding := founding, planningDue := false }
  s.withdrawMark.outputOff.outputSlotStart

/-! ### The parts of a mark -/

/-- The seven agreed fields equal the station's setup (R70). -/
def agrees (m : MarkFields) (c : Setup) : Bool :=
  m.slotLength == c.slotLength && m.budget == c.budget && m.deratedBudget == c.deratedBudget
    && m.period == c.period && m.expiry == c.expiry && m.quorum == c.quorum
    && m.derateHold == c.derateHold

/-- A standing counter that has reached E − 1 lapses a MEMBER (R66). -/
def State.lapseIfDue (s : State) : State :=
  if s.member.station = .member ∧ s.cfg.expiry ≤ s.member.standing + 1 then
    s.enterLapsed .lapsedSend
  else s

/-- The standing counter rises by one at a station that was MEMBER before the mark (R65, R66). -/
def State.standingPart (was : StationState) (s : State) : State :=
  if was = .member ∧ s.member.station = .member then
    (s.withMember { s.member with standing := s.member.standing + 1 }).lapseIfDue
  else s

/-- The joining count rises by one, up to E, unless this mark has aligned the station (R64); then joining
completion is tested (R65). -/
def State.joiningPart (wasAligned : Bool) (s : State) : State :=
  if s.member.station = .joining then
    let count :=
      if wasAligned then min s.cfg.expiry (s.member.joiningCount + 1) else s.member.joiningCount
    (s.withMember { s.member with joiningCount := count }).joinIfDone
  else s

/-- Silence counts: every LIVE entry's rises by one, and an ABSENT entry's while the map holds a live
record of that peer (R50). The own entry is not written (R38). -/
def State.raiseSilence (s : State) : State :=
  s.withPeers (s.peers.change fun p e =>
    if p = s.id then e
    else if e.live || s.map.anyLive p then { e with silence := e.silence + 1 }
    else e)

/-- Silence is counted, then every peer whose count has reached E is dealt with (R50, R51). -/
def State.silencePart (s : State) : State :=
  if s.onLine then
    allStations.foldl (fun s p => (s.expirePeer p).orphanAbsent p) s.raiseSilence
  else s

/-- The orphan countdown (R16). -/
def State.orphanPart (c : CycleNumber) (s : State) : State :=
  if s.onLine then s.withMap (s.map.countdown c) else s

/-- A PENDING entry promoted to ACTIVE, in its place (R90). -/
def Holding.promote (h : Holding) : Holding :=
  if h.state = .pending then { h with state := .active } else h

/-- SERVED, once, when the ACTIVE count has reached the head's floor (R90). -/
def State.serve (s : State) : State :=
  match s.demands with
  | [] => s
  | d :: ds =>
    if d.served = false ∧ d.floor ≤ s.activeCount then
      (s.withDemands ({ d with served := true } :: ds)).note (.served d.tag s.activeCount)
    else s

/-- Promotion at a MEMBER station (R90). -/
def State.promotionPart (s : State) : State :=
  if s.member.station = .member then (s.withHoldings (s.holdings.map Holding.promote)).serve else s

/-- The local hold counter falls by one; with it at 0 and the MARK's derate field 0 the yield hold ends
(R102). -/
def State.localHoldPart (field : Nat) (s : State) : State :=
  if s.onLine then
    let hold := s.planner.localHold - 1
    s.withPlanner { s.planner with
      localHold := hold
      yieldHold := if hold = 0 ∧ field = 0 then false else s.planner.yieldHold }
  else s

/-- A SHARED station whose condition is present queues a SAG when the field is 0 or 1 (R108). -/
def State.sagExtensionPart (field : Nat) (s : State) : State :=
  if s.onLine ∧ s.cfg.sagMode = .shared ∧ s.sag.condition = true ∧ field ≤ 1 then s.queueSag else s

/-- A PRESENCE is queued at the marks whose cycle number matches the station ID modulo P (R41). -/
def State.presencePart (c : CycleNumber) (s : State) : State :=
  if s.onLine ∧ c.toNat % s.cfg.period = s.id.val % s.cfg.period then s.queuePresence else s

/-- One part of a completed MARK, taken in the state the parts before it have left. `dup` says that the
MARK bears this station's ID and was not sent by it: then the Slot Map and the Peer Table do not apply
it (R141). `was` and `wasAligned` are the station state and the aligned flag before the mark. -/
def State.markPart (m : MarkFields) (dup : Bool) (was : StationState) (wasAligned : Bool) (s : State) :
    MarkPart → State
  | .agreement => if s.onLine ∧ agrees m s.cfg = false then s.enterFaulted .faultParameter else s
  | .duplicateId => if s.onLine ∧ dup = true then s.enterFaulted .faultDuplicate else s
  | .standing => s.standingPart was
  | .joining => s.joiningPart wasAligned
  | .silence => if dup then s else s.silencePart
  | .orphans => if dup then s else s.orphanPart m.cycle
  | .promotion => s.promotionPart
  | .localHold => s.localHoldPart m.derate
  | .derate => if s.onLine then s.derateFromMark m.derate else s
  | .sagExtension => s.sagExtensionPart m.derate
  | .presence => if dup then s else s.presencePart m.cycle

/-- Every part once, in the order in which the model takes those the world does not name. -/
def allMarkParts : List MarkPart :=
  [.agreement, .duplicateId, .standing, .joining, .silence, .orphans, .promotion, .localHold, .derate,
    .sagExtension, .presence]

/-- The first mention of each part is kept. -/
def firstMentions : List MarkPart → List MarkPart
  | [] => []
  | p :: ps => p :: (firstMentions ps).filter fun q => q != p

/-- The order in which the parts of a mark are taken: the world's, then the parts it does not name. Every
part stands in it exactly once. -/
def markOrder (order : List MarkPart) : List MarkPart := firstMentions (order ++ allMarkParts)

/-- A MARK applied at a station that aligns on it (Table 2-3): the end of the cycle in progress, the
alignment, then the parts. -/
def State.applyMark (m : MarkFields) (dup : Bool) (order : List MarkPart) (s : State) : State :=
  let was := s.member.station
  let wasAligned := s.aligned
  (markOrder order).foldl (fun s p => s.markPart m dup was wasAligned p) (s.truncate.align m.cycle)

/-- A MARK completes on the line. -/
def State.markCompletes (sender : StationId) (m : MarkFields) (order : List MarkPart) (s : State) :
    State :=
  match s.landing sender (.mark m) with
  | .unheard => s
  | .own s => s.applyMark m false order
  | .duplicate s => s.applyMark m true order
  | .other s => s.applyMark m false order

/-- MARK_COMPLETE (R30). -/
def execMarkComplete (sender : StationId) (m : MarkFields) (order : List MarkPart) (s : State) :
    Host.Outcome State Fault Refusal :=
  .next (s.unlessHeld fun s => s.markCompletes sender m order)

/-! ### What comes about at a mark, as rows of their own -/

/-- PEER_EXPIRY (R51). -/
def execPeerExpiry (p : StationId) (s : State) : Host.Outcome State Fault Refusal :=
  .next (s.unlessHeld fun s => s.expirePeer p)

/-- ABSENT_PEER_ORPHANED (R50). -/
def execAbsentPeerOrphaned (p : StationId) (s : State) : Host.Outcome State Fault Refusal :=
  .next (s.unlessHeld fun s => s.orphanAbsent p)

/-- An orphan record of `p` in slot `k` whose marks left is zero is removed (R16). -/
def State.removeSpentOrphan (k : SlotIndex) (p : StationId) (s : State) : State :=
  if s.onLine then
    s.withMap (s.map.set k ((s.map.get k).filter fun r => !(r.station == p && r.ranOut)))
  else s

/-- ORPHAN_COUNTDOWN_END (R16). -/
def execOrphanCountdownEnd (k : SlotIndex) (p : StationId) (s : State) :
    Host.Outcome State Fault Refusal :=
  .next (s.unlessHeld fun s => s.removeSpentOrphan k p)

/-- STANDING_LAPSE (R66). -/
def execStandingLapse (s : State) : Host.Outcome State Fault Refusal :=
  .next (s.unlessHeld State.lapseIfDue)

/-- JOINING_COMPLETION (R65). -/
def execJoiningCompletion (s : State) : Host.Outcome State Fault Refusal :=
  .next (s.unlessHeld State.joinIfDone)

/-- The yield hold ends where the local hold counter is 0 and no window runs (R102). -/
def State.yieldHoldEnds (s : State) : State :=
  if s.onLine ∧ s.planner.localHold = 0 ∧ s.sag.derateRemaining = 0 then
    s.withPlanner { s.planner with yieldHold := false }
  else s

/-- YIELD_HOLD_END (R102). -/
def execYieldHoldEnd (s : State) : Host.Outcome State Fault Refusal :=
  .next (s.unlessHeld State.yieldHoldEnds)

end Sys2Proof.Machine
end

