-- ==== Sys2Proof/Machine/Notices.lean ====
section
/-!
DEFINITION. The completion of CONTEST, RELEASE, LEAVE, PRESENCE and CLAIM (Sections 1, 3, 4 and 5). SAG is
in Sag.lean and MARK in Mark.lean.
-/

namespace Sys2Proof.Machine

/-! ### CONTEST (R11, R12, R13) -/

/-- A waiting CONTEST for the same target whose set is covered is withdrawn (R146). -/
def Outbox.withdrawContest (t : StationId) (x : SlotSet) (o : Outbox) : Outbox :=
  match o.contest with
  | some (t', y) => if t' = t ∧ slotSubset y x = true then { o with contest := none } else o
  | none => o

/-- A CONTEST against this station: its entries for the named slots go, then YIELDED and SHORT (R12,
R13). -/
def State.contestedHere (x : SlotSet) (s : State) : State :=
  let n := (s.holdings.filter fun h => slotIn x h.slot).length
  let s := s.dropHoldings (slotIn x)
  if n = 0 then s else (s.note (.yielded n .contest)).shortIfBelow .contest

/-- A CONTEST applied (R11, R12, R146). -/
def State.contestApplies (t : StationId) (x : SlotSet) (s : State) : State :=
  if s.onLine then
    let s := (s.withMap (s.map.contest t x)).withOutbox (s.outbox.withdrawContest t x)
    if t = s.id then s.contestedHere x else s
  else s

/-- CONTEST_COMPLETE (R11). -/
def execContestComplete (sender t : StationId) (x : SlotSet) (s : State) :
    Host.Outcome State Fault Refusal :=
  .next (s.unlessHeld fun s =>
    s.complete sender (.contest t x) (State.contestApplies t x) (State.contestApplies t x))

/-! ### RELEASE (R9, R10) -/

/-- A RELEASE applied: the sender's live records go from the named slots (R9). -/
def State.releaseApplies (p : StationId) (x : SlotSet) (s : State) : State :=
  if s.onLine then s.withMap (s.map.release p x) else s

/-- The own RELEASE applied: the Holding List entries for its slots go with the records (R10). -/
def State.ownReleaseApplies (x : SlotSet) (s : State) : State :=
  if s.onLine then (s.releaseApplies s.id x).dropHoldings (slotIn x) else s

/-- RELEASE_COMPLETE (R9). -/
def execReleaseComplete (sender : StationId) (x : SlotSet) (s : State) :
    Host.Outcome State Fault Refusal :=
  .next (s.unlessHeld fun s =>
    s.complete sender (.release x) (State.ownReleaseApplies x) (State.releaseApplies sender x))

/-! ### LEAVE (R14, R53, R74) -/

/-- A LEAVE from another station: its records go, and a LIVE entry becomes ABSENT with silence count 0. -/
def State.leaveApplies (p : StationId) (s : State) : State :=
  if s.onLine then
    let before := s.liveCount
    let e := s.peers.get p
    let s := s.withMap (s.map.removeStation p)
    let s :=
      if e.live then s.withPeers (s.peers.set p { e with live := false, silence := 0 }) else s
    s.afterLive before
  else s

/-- The own LEAVE ends LEAVING (R74). -/
def State.ownLeaveApplies (s : State) : State :=
  if s.member.station = .leaving then s.endLeaving else s

/-- LEAVE_COMPLETE (R14). -/
def execLeaveComplete (sender : StationId) (s : State) : Host.Outcome State Fault Refusal :=
  .next (s.unlessHeld fun s =>
    s.complete sender .leave State.ownLeaveApplies (State.leaveApplies sender))

/-! ### PRESENCE (R43 to R48) -/

/-- A PRESENCE from another station: the entry is brought up to date (R44), the map reconciled (R44 to
R46), a CONTEST raised by a MEMBER (R47), and the role counted (R48). -/
def State.presenceApplies (p : StationId) (f : PresenceFields) (s : State) : State :=
  if s.onLine then
    let before := s.liveCount
    let returning := !(s.peers.get p).live
    let contest := s.map.contestSet s.cfg.budget p f.units returning f.holdings
    let s := s.withMap (s.map.reconcile s.cfg.budget p f.units returning f.holdings)
    let s := s.withPeers (s.peers.set p ⟨true, f.role, f.units, f.priority, 0⟩)
    let s := if s.member.station = .member then s.queueContest p contest else s
    s.afterLive before
  else s

/-- The announced priority becomes the priority field of an own PRESENCE or own CLAIM that completes
(R87). -/
def State.announce (q : Priority) (s : State) : State :=
  s.withPlanner { s.planner with announcedPriority := q }

/-- The own PRESENCE (R43, R64, R65, R66, R87): at a MEMBER the standing counter becomes 0 and a RELEASE
is queued for every stale slot; at a JOINING station the own-presence flag is set and joining completion
is tested. -/
def State.ownPresenceApplies (f : PresenceFields) (s : State) : State :=
  let s := s.announce f.priority
  if s.onLine then
    if s.member.station = .member then
      let stale := f.holdings &&& ~~~(s.map.heldBy s.id)
      (s.withMember { s.member with standing := 0 }).queueRelease stale
    else (s.withMember { s.member with ownPresence := true }).joinIfDone
  else s

/-- PRESENCE_COMPLETE (R44). -/
def execPresenceComplete (sender : StationId) (f : PresenceFields) (s : State) :
    Host.Outcome State Fault Refusal :=
  .next (s.unlessHeld fun s =>
    s.complete sender (.presence f) (State.ownPresenceApplies f) (State.presenceApplies sender f))

/-! ### CLAIM (R7, R8, R49, R100) -/

/-- A CLAIM from another station: a LIVE peer's priority is set (R49), and a MEMBER's map admits it (R7). -/
def State.claimApplies (p : StationId) (c : ClaimFields) (s : State) : State :=
  if s.onLine then
    let e := s.peers.get p
    let s := if e.live then s.withPeers (s.peers.set p { e with priority := c.priority }) else s
    if s.member.station = .member then s.withMap (s.map.admission s.beff p c.units c.slots) else s
  else s

/-- New entries at the end of the Holding List, in ascending index (R100). -/
def State.addHoldings (st : HoldState) (slots : List SlotIndex) (s : State) : State :=
  s.withHoldings (s.holdings ++ slots.map fun k => ⟨k, st⟩)

/-- What the planner does with a granted set (R100): PENDING with the surplus released, RELEASING under
yield hold, or given back at once while not quorate. -/
def State.takeGrant (granted : List SlotIndex) (s : State) : State :=
  let x := slotSetOf granted
  if s.quorate = false then (s.withMap (s.map.release s.id x)).queueRelease x
  else if s.planner.yieldHold then (s.addHoldings .releasing granted).queueRelease x
  else
    let s := s.addHoldings .pending granted
    s.releaseSurplus s.headWant

/-- The own CLAIM (R87), granted at a MEMBER station alone (R8, R100). -/
def State.ownClaimApplies (c : ClaimFields) (s : State) : State :=
  let s := s.announce c.priority
  if s.member.station = .member then
    let granted := s.map.granted s.beff s.id c.units c.slots
    ((s.withMap (s.map.admission s.beff s.id c.units c.slots)).endClaim).takeGrant granted
  else s

/-- CLAIM_COMPLETE (R7). -/
def execClaimComplete (sender : StationId) (c : ClaimFields) (s : State) :
    Host.Outcome State Fault Refusal :=
  .next (s.unlessHeld fun s =>
    s.complete sender (.claim c) (State.ownClaimApplies c) (State.claimApplies sender c))

end Sys2Proof.Machine
end

