-- ==== Sys2Proof/Machine/Planner.lean ====
section
/-!
DEFINITION. PLANNING_POINT: the Claim Planner's choice of slots and its CLAIM (R94 to R98), and the
Snapshot Buffer's latch (R159); and DEMAND_COMPLETED (R92).
-/

namespace Sys2Proof.Machine

/-! ### Candidates and picks -/

/-- A slot is a candidate when the station holds no record of its own in it and its load still fits under
Beff (R95). -/
def State.isCandidate (s : State) (k : SlotIndex) : Bool :=
  fits s.beff s.id s.cfg.load (s.map.get k)

/-- The candidate slots, in ascending index (R95). -/
def State.candidates (s : State) : List SlotIndex := allSlots.filter s.isCandidate

/-- The first element of a list with the greatest measure. -/
def bestBy (measure : SlotIndex → Nat) : List SlotIndex → Option SlotIndex
  | [] => none
  | k :: ks =>
    match bestBy measure ks with
    | none => some k
    | some j => if measure k < measure j then some j else some k

/-- The first element of a list with the least measure. -/
def leastBy (measure : SlotIndex → Nat) : List SlotIndex → Option SlotIndex
  | [] => none
  | k :: ks =>
    match leastBy measure ks with
    | none => some k
    | some j => if measure j < measure k then some j else some k

/-- The distance from a slot to the nearest of the reference slots; with none it reads 64 (R97). -/
def nearest (refs : List SlotIndex) (k : SlotIndex) : Nat :=
  refs.foldl (fun d r => min d (cyclicDistance k r)) 64

/-- One SPREAD pick (R97): the candidate farthest from its nearest reference slot, or with no reference
slots the one with the lowest committed units; the lowest index among equals. -/
def pickOne (load : SlotIndex → Nat) (refs cands : List SlotIndex) : Option SlotIndex :=
  if refs = [] then leastBy load cands else bestBy (nearest refs) cands

/-- SPREAD picks, one at a time (R97). -/
def pickSpread (load : SlotIndex → Nat) : Nat → List SlotIndex → List SlotIndex → List SlotIndex
  | 0, _, _ => []
  | n + 1, refs, cands =>
    match pickOne load refs cands with
    | none => []
    | some k => k :: pickSpread load n (k :: refs) (cands.filter fun j => j != k)

/-- The picks of a planning point: the lesser of want and the number of candidates, by PACK (R96) or
SPREAD (R97). -/
def State.picks (d : Demand) (s : State) : List SlotIndex :=
  let want := d.want - s.heldCount
  match d.placement with
  | .pack => s.candidates.take want
  | .spread => pickSpread (fun k => committed (s.map.get k)) want s.heldSlots s.candidates

/-- The conditions of R94 but for the head's want. -/
def State.mayPlan (s : State) : Bool :=
  s.quorate && !s.planner.claimOutstanding && !s.planner.yieldHold

/-- A CLAIM is planned and queued, and the claim-outstanding flag set (R94, R98). With no candidate, or
nothing wanted, no claim is made. -/
def State.planClaim (s : State) : State :=
  match s.demands with
  | [] => s
  | d :: _ =>
    if s.mayPlan then
      let picks := s.picks d
      if picks = [] then s
      else
        (s.withOutbox { s.outbox with claim := some (slotSetOf picks) }).withPlanner
          { s.planner with claimOutstanding := true, pickOrder := picks }
    else s

/-! ### The snapshot -/

/-- The state of the Holding List entry for slot `k`, or none (R159). -/
def State.ownStateAt (s : State) (k : SlotIndex) : Option HoldState :=
  (s.holdings.find? fun h => h.slot == k).map Holding.state

/-- A slot's summary (Table 1-1, R159). -/
def State.summary (s : State) (k : SlotIndex) : SlotSummary :=
  let e := s.map.get k
  ⟨committed e, e.length, orphanUnits e, s.ownStateAt k⟩

/-- A pending snapshot is latched in JOINING and MEMBER (R159). -/
def State.latch (s : State) : State :=
  if s.snap.pending ∧ s.onLine then
    s.withSnap ⟨Table.ofFn s.summary, s.timer.cycle, true, false⟩
  else s

/-! ### The planning point -/

/-- The start of slot 1 is handed to the Claim Planner and the Snapshot Buffer, once (R24). -/
def State.planningPointComes (s : State) : State :=
  match s.timer.phase with
  | .inSlot k _ =>
    if k = 1 ∧ s.timer.planningDue = true then
      (s.withTimer { s.timer with planningDue := false }).planClaim.latch
    else s
  | _ => s

/-- PLANNING_POINT (R24, R94, R159). -/
def execPlanningPoint (s : State) : Host.Outcome State Fault Refusal :=
  .next (s.unlessHeld State.planningPointComes)

/-- DEMAND_COMPLETED (R92). -/
def execDemandCompleted (s : State) : Host.Outcome State Fault Refusal :=
  .next (s.unlessHeld State.completeDemand)

end Sys2Proof.Machine
end

