-- ==== Sys2Proof/Machine/Reset.lean ====
section
/-!
DEFINITION. POWER_ON, RSTN_ASSERTED and RSTN_NEGATED (R61, R62).
-/

namespace Sys2Proof.Machine

/-- The station leaves its power-on condition: the ID is sampled (R62) and STATE (OFFLINE, POWER_ON) is
queued (R61). A host transaction in progress is abandoned: the port begins with the next fall of CSN (R148). -/
def State.start (pins : ResetPins) (s : State) : State :=
  let s := (s.cleared none .powerOn).withId pins.id
  (s.withPort { s.port with abandoned := pins.csnLow }).noteState .powerOn

/-- Power comes up. With RSTN negated the station starts; with RSTN asserted it stays in its power-on
condition until RSTN is negated (R61). -/
def State.powerUp (pins : ResetPins) (s : State) : State :=
  if s.rstn then s.cleared none .powerOn else s.start pins

/-- POWER_ON (R61). -/
def execPowerOn (pins : ResetPins) (s : State) : Host.Outcome State Fault Refusal :=
  .next (s.powerUp pins)

/-- RSTN_ASSERTED (R61): driving stops at once, any host transaction is abandoned, and the station holds
its power-on condition. No command is taken at a rise of CSN until RSTN is negated, and a transaction that is
in progress then is not taken either (R148, `State.start`). -/
def execRstnAsserted (s : State) : Host.Outcome State Fault Refusal :=
  .next ((s.withRstn true).cleared none .powerOn)

/-- RSTN is released; where it was not asserted nothing is released. -/
def State.releaseReset (pins : ResetPins) (s : State) : State :=
  if s.rstn then (s.withRstn false).start pins else s

/-- RSTN_NEGATED (R61, R62). -/
def execRstnNegated (pins : ResetPins) (s : State) : Host.Outcome State Fault Refusal :=
  .next (s.releaseReset pins)

end Sys2Proof.Machine
end

