-- ==== Sys2Proof/Machine/Dispatch.lean ====
section
/-!
DEFINITION. The dispatch: one arm per command, each one direct call of its meaning.
-/

namespace Sys2Proof.Machine

/-- The effect of a command on everything but the queue of waiting commands. -/
def exec (i : Instr) (s : State) : Host.Outcome State Fault Refusal :=
  match i with
  | .powerOn pins => Sys2Proof.Machine.execPowerOn pins s
  | .rstnAsserted => Sys2Proof.Machine.execRstnAsserted s
  | .rstnNegated pins => Sys2Proof.Machine.execRstnNegated pins s
  | .nop frame => Sys2Proof.Machine.execNop frame s
  | .setup frame => Sys2Proof.Machine.execSetup frame s
  | .enter frame => Sys2Proof.Machine.execEnter frame s
  | .leave frame => Sys2Proof.Machine.execLeave frame s
  | .restart frame => Sys2Proof.Machine.execRestart frame s
  | .demandAppend frame => Sys2Proof.Machine.execDemandAppend frame s
  | .demandReplace frame => Sys2Proof.Machine.execDemandReplace frame s
  | .withdraw frame => Sys2Proof.Machine.execWithdraw frame s
  | .status frame => Sys2Proof.Machine.execStatus frame s
  | .nextNote frame => Sys2Proof.Machine.execNextNote frame s
  | .snap frame => Sys2Proof.Machine.execSnap frame s
  | .snapRead frame => Sys2Proof.Machine.execSnapRead frame s
  | .peersRead frame => Sys2Proof.Machine.execPeersRead frame s
  | .queueRead frame => Sys2Proof.Machine.execQueueRead frame s
  | .saginChange asserted => Sys2Proof.Machine.execSaginChange asserted s
  | .sagConditionChange => Sys2Proof.Machine.execSagConditionChange s
  | .markComplete sender mark order => Sys2Proof.Machine.execMarkComplete sender mark order s
  | .peerExpiry peer => Sys2Proof.Machine.execPeerExpiry peer s
  | .absentPeerOrphaned peer => Sys2Proof.Machine.execAbsentPeerOrphaned peer s
  | .orphanCountdownEnd slot peer => Sys2Proof.Machine.execOrphanCountdownEnd slot peer s
  | .standingLapse => Sys2Proof.Machine.execStandingLapse s
  | .joiningCompletion => Sys2Proof.Machine.execJoiningCompletion s
  | .windowEnd => Sys2Proof.Machine.execWindowEnd s
  | .yieldHoldEnd => Sys2Proof.Machine.execYieldHoldEnd s
  | .sagComplete sender => Sys2Proof.Machine.execSagComplete sender s
  | .contestComplete sender target slots => Sys2Proof.Machine.execContestComplete sender target slots s
  | .releaseComplete sender slots => Sys2Proof.Machine.execReleaseComplete sender slots s
  | .leaveComplete sender => Sys2Proof.Machine.execLeaveComplete sender s
  | .presenceComplete sender presence => Sys2Proof.Machine.execPresenceComplete sender presence s
  | .claimComplete sender claim => Sys2Proof.Machine.execClaimComplete sender claim s
  | .slotBoundary => Sys2Proof.Machine.execSlotBoundary s
  | .planningPoint => Sys2Proof.Machine.execPlanningPoint s
  | .markGapBegin => Sys2Proof.Machine.execMarkGapBegin s
  | .demandCompleted => Sys2Proof.Machine.execDemandCompleted s
  | .markTimeout => Sys2Proof.Machine.execMarkTimeout s
  | .founding => Sys2Proof.Machine.execFounding s
  | .lapseWaitEnd => Sys2Proof.Machine.execLapseWaitEnd s
  | .onPoint => Sys2Proof.Machine.execOnPoint s
  | .tailPoint => Sys2Proof.Machine.execTailPoint s
  | .attemptStart => Sys2Proof.Machine.execAttemptStart s
  | .arbitrationLost => Sys2Proof.Machine.execArbitrationLost s
  | .receiveError error => Sys2Proof.Machine.execReceiveError error s
  | .readbackMismatch sent read returned => Sys2Proof.Machine.execReadbackMismatch sent read returned s
  | .breakEnd => Sys2Proof.Machine.execBreakEnd s
  | .lineBreakSeen => Sys2Proof.Machine.execLineBreakSeen s
  | .attemptBroken => Sys2Proof.Machine.execAttemptBroken s
  | .transmitFailure => Sys2Proof.Machine.execTransmitFailure s
  | .clashFault => Sys2Proof.Machine.execClashFault s
  | .receiveFault => Sys2Proof.Machine.execReceiveFault s
  | .frameReceptionBegin early => Sys2Proof.Machine.execFrameReceptionBegin early s
  | .unknownCommandCode code frame => Sys2Proof.Machine.execUnknownCommandCode code frame s

end Sys2Proof.Machine
end

