-- ==== Sys2Proof/Safety.lean ====
section
/-!
DEFINITION. What counts as a safe state: the laws the spec names (R1, R2, R3, R66, R81, R88, R89, R98, R121,
R142, R143, R154) and the ranges of its tables, each a decidable property of one state. Every statement
about all states takes the ones it needs as premises.
-/

namespace Sys2Proof.Machine

/-- The held setup record passes Table 9-3 (R152), and every state but OFFLINE holds one (R63, R75). -/
abbrev State.SetupLaw (s : State) : Prop :=
  s.setup.all Setup.valid = true ∧ (s.member.station ≠ .offline → s.setup.isSome = true)

/-- What an OFFLINE, LAPSED or FAULTED station holds: nothing (Tables 1-5 and 3-6, R68, R72, R74, R147). -/
abbrev State.RestLaw (s : State) : Prop :=
  s.drives = false → s.map = SlotMap.cleared ∧ s.peers = PeerTable.cleared ∧ s.outbox = Outbox.empty

/-- The law of the map's budget (R1): committed units never exceed B. -/
abbrev State.BudgetLaw (s : State) : Prop :=
  ∀ k : SlotIndex, committed (s.map.get k) ≤ s.cfg.budget

/-- The law of holder lists (R2): no station twice in a slot, and at most 32 records. -/
abbrev State.HolderListLaw (s : State) : Prop :=
  ∀ k : SlotIndex, ((s.map.get k).map HolderRecord.station).Nodup ∧ (s.map.get k).length ≤ 32

/-- The law of orphan records (R3), with the own entry of the Peer Table ABSENT (R38). -/
abbrev State.OrphanLaw (s : State) : Prop :=
  (s.peers.get s.id).live = false ∧
  ∀ k : SlotIndex, ∀ r ∈ s.map.get k, r.orphan.isSome = true →
    r.station ≠ s.id ∧ (s.peers.get r.station).live = false

/-- The law of the Holding List (R88): no slot twice, its slots are those with an own live record, and a
station outside MEMBER holds no entries (R89). -/
abbrev State.HoldingLaw (s : State) : Prop :=
  (s.holdings.map Holding.slot).Nodup ∧
  (∀ k : SlotIndex, k ∈ s.holdings.map Holding.slot ↔ listsLive (s.map.get k) s.id = true) ∧
  (s.member.station ≠ .member → s.holdings = [])

/-- The law of held amount (R89). -/
abbrev State.HeldAmountLaw (s : State) : Prop :=
  s.heldCount ≤ s.headWant ∧ (s.quorate = false → s.heldCount = 0)

/-- The law of the Demand Queue (R81), with the ranges of Table 5-1. -/
abbrev State.DemandLaw (s : State) : Prop :=
  s.demands.length ≤ Config.demandCapacity ∧ (s.demands.map Demand.tag).Nodup ∧
  (∀ d ∈ s.demands, d.valid = true)

/-- The head's served flag is set at a MEMBER station alone: entry to every other state clears it or takes the
demand away (R68, R72, R73, R82), and only promotion at a MEMBER sets it (R90). -/
abbrev State.ServedLaw (s : State) : Prop :=
  s.member.station ≠ .member → ∀ d, s.demands.head? = some d → d.served = false

/-- The law of standing (R66): a MEMBER's standing counter is below E − 1. -/
abbrev State.StandingLaw (s : State) : Prop :=
  s.member.station = .member → s.member.standing + 1 < s.cfg.expiry

/-- Whether the current slot's Holding List entry is ACTIVE. -/
def State.currentActive (s : State) : Bool :=
  match s.timer.phase with
  | .inSlot k _ => s.activeAt k
  | _ => false

/-- Whether the entry of the slot after the current one, in the same cycle, is ACTIVE. -/
def State.followingActive (s : State) : Bool :=
  match s.timer.phase with
  | .inSlot k _ => (nextSlot k).any s.activeAt
  | _ => false

/-- The law of the output (R121): phase ON only in a slot whose entry is ACTIVE, at a quorate MEMBER, never in
the gap; and the carry flag only in phase ON with the next slot ACTIVE as well (R122, R123). -/
abbrev State.OutputLaw (s : State) : Prop :=
  (s.output.phase = .on → s.quorate = true ∧ s.currentActive = true) ∧
  (s.output.carry = true → s.output.phase = .on ∧ s.followingActive = true) ∧
  (s.member.station ≠ .member → s.output = ⟨.idle, false⟩)

/-- The law of the line (R142): a station drives only while JOINING, MEMBER or LEAVING. -/
abbrev State.DriveLaw (s : State) : Prop :=
  s.drivingLine = true → s.drives = true

/-- A frame is held for a completion at this very moment by a station that has just lapsed alone (R28,
assumption 31). -/
abbrev State.ClosingLaw (s : State) : Prop :=
  s.line.closing = true → s.member.station = .lapsed

/-- The ranges of Table 8-3. -/
abbrev State.LineRanges (s : State) : Prop :=
  s.line.idleTime ≤ Config.idleTicks ∧ s.line.attempts ≤ Config.attemptLimit ∧
  s.line.clashes ≤ Config.clashLimit ∧ s.line.receiveFaults ≤ Config.receiveFaultLimit

/-- Whether the notice in flight is a CLAIM. -/
def Outbox.claimInFlight (o : Outbox) : Bool :=
  match o.inFlight with
  | some (.claim _) => true
  | _ => false

/-- The law of claims (R98): at most one CLAIM, waiting or in flight; the claim-outstanding flag is set while
there is one, but for a CLAIM in flight at the LEAVE command (R73, R93); and a waiting CLAIM, which only a
MEMBER has, names exactly the slots of its pick order, at least one (R98, R99). -/
abbrev State.ClaimLaw (s : State) : Prop :=
  (s.outbox.claim.isSome = true → s.member.station = .member ∧ s.outbox.claimInFlight = false ∧
    s.planner.claimOutstanding = true ∧ s.outbox.claim = some (slotSetOf s.planner.pickOrder) ∧
    s.planner.pickOrder ≠ []) ∧
  (s.outbox.claimInFlight = true → s.member.station = .leaving ∨ s.planner.claimOutstanding = true)

/-- What stands in the Outbox can be sent (Section 10.1): no empty slot set, no CONTEST against this station,
and the notice in flight is well formed; with derate remaining in its range (Table 6-1). -/
abbrev State.OutboxLaw (s : State) : Prop :=
  s.outbox.contest.all (fun c => c.1 != s.id && c.2 != 0) = true ∧
  s.outbox.release.all (fun x => x != 0) = true ∧
  s.outbox.claim.all (fun x => x != 0) = true ∧
  s.outbox.inFlight.all (noticeWellFormed s.id) = true ∧
  s.sag.derateRemaining ≤ 15

/-- The ranges of Table 2-1: no timer stands above its limit, a resting station is UNALIGNED, and the founding
timer runs in JOINING alone (R33, R37). -/
def State.timerInRange (s : State) : Bool :=
  match s.timer.phase with
  | .unaligned => true
  | .inSlot _ t => decide (t ≤ s.slotTicks)
  | .inGap t _ => decide (t ≤ s.cycleTicks)

/-- The ranges of Table 2-1 with the phases of R36 and R37. -/
abbrev State.TimerLaw (s : State) : Prop :=
  s.timerInRange = true ∧ s.timer.founding ≤ s.foundingTicks ∧
  (s.member.station ≠ .joining → s.timer.founding = 0) ∧
  (s.member.station = .offline ∨ s.member.station = .faulted → s.timer.phase = .unaligned)

/-- The range of Table 3-1: while the table is in use no silence count stands at E, because a count that
reaches it has its effect in the same event (R50, R51). -/
abbrev State.SilenceLaw (s : State) : Prop :=
  s.drives = true → ∀ p : StationId, (s.peers.get p).silence < s.cfg.expiry

/-- The law of the Notification Queue (R154). -/
abbrev State.NoteLaw (s : State) : Prop :=
  s.notes.records.length ≤ Config.noteCapacity

/-! ### The terms of the statements -/

/-- The Host Port takes the transaction that ends: RSTN is negated and no reset has caught it (R148). -/
abbrev State.Ready (s : State) : Prop := s.rstn = false ∧ s.port.abandoned = false

/-- A transaction fits the command `code` of `n` field bytes (R150): whole bytes, the code first, at least `n`
behind it, and 00h behind those. -/
abbrev Fits (f : HostFrame) (code : Byte) (n : Nat) : Prop :=
  f.bits.length % 8 = 0 ∧ f.bytes.head? = some code ∧ n ≤ f.bytes.tail.length ∧
  ∀ b ∈ f.bytes.tail.drop n, b = 0

/-- A notice that this station has not sent completes here, whatever ID it bears: the station listens, has
received the frame from its start pulse, and found nothing malformed in it (R136, R165). A station that has lapsed
in this very moment still takes the frame that ends (R28). -/
abbrev State.Receives (s : State) (p : StationId) (n : Notice) : Prop :=
  s.rstn = false ∧ s.listens = true ∧ (s.line.rx = .frame ∨ s.line.closing = true) ∧ s.line.tx = .silent ∧
  noticeWellFormed p n = true

/-- Another station's notice completes here. -/
abbrev State.Hears (s : State) (p : StationId) (n : Notice) : Prop := s.Receives p n ∧ p ≠ s.id

/-- This station's own notice completes: it has sent the notice in flight to the end (R136, R141). -/
abbrev State.Sends (s : State) (n : Notice) : Prop :=
  s.rstn = false ∧ s.listens = true ∧ s.line.tx = .sending ∧ s.outbox.inFlight = some n

/-- What the end of another station's frame leaves on the line (R130, R140). -/
def State.afterHeard (s : State) : State :=
  s.withLine { s.line with
    rx := .idle, idleTime := 0, awaitingIdle := false, closing := false, tx := .silent, broken := none,
    receiveFaults := 0 }

/-- What the end of the own frame leaves: the same, and the notice's flight has ended (R136). -/
def State.afterSent (s : State) : State :=
  (s.withLine { s.line with
    rx := .idle, idleTime := 0, awaitingIdle := false, closing := false, tx := .silent, broken := none,
    receiveFaults := 0, attempts := 0, clashes := 0 }).withOutbox { s.outbox with inFlight := none }

/-- A notice completes at this station, another's or its own, and leaves `u` for the blocks to apply it to. -/
abbrev State.Completes (s : State) (p : StationId) (n : Notice) (u : State) : Prop :=
  (s.Hears p n ∧ u = s.afterHeard) ∨ (s.Sends n ∧ p = s.id ∧ u = s.afterSent)

/-- The agreed fields of a MARK equal the setup (R70). -/
abbrev Agrees (m : MarkFields) (c : Setup) : Prop :=
  m.slotLength = c.slotLength ∧ m.budget = c.budget ∧ m.deratedBudget = c.deratedBudget ∧
  m.period = c.period ∧ m.expiry = c.expiry ∧ m.quorum = c.quorum ∧ m.derateHold = c.derateHold

/-- A mark at which the station neither faults nor lapses (R66, R70). -/
abbrev State.StaysOn (s : State) (m : MarkFields) : Prop :=
  (s.onLine = true → Agrees m s.cfg) ∧
  (s.member.station = .member → s.member.standing + 2 < s.cfg.expiry)

/-- The Notification Queue after records are queued one after another (R154): each joins the end while fewer than
16 are held, and the flag is set where one is dropped. -/
def NotificationQueue.after (q : NotificationQueue) (ns : List Note) : NotificationQueue :=
  let room := Config.noteCapacity - q.records.length
  ⟨q.records ++ ns.take room, q.overflow || decide (room < ns.length)⟩

/-- The records among `ns` of one kind, by the kind byte of Table 10-11, in their order. -/
def recordsOfKind (kind : Byte) (ns : List Note) : List Note := ns.filter fun n => n.body.kindCode == kind

/-- The DERATE record that a MARK with cycle number `c` and derate field `field` queues where derate remaining was
`before` (R112), or none. -/
def derateRecords (c : CycleNumber) (before field : Nat) : List Note :=
  if 0 < before ∧ field = 0 then [⟨c, .derate 0 .ended⟩]
  else if before = 0 ∧ 0 < field then [⟨c, .derate field .started⟩]
  else []

/-- The SERVED record of a promotion (R90): the head's, where its flag is clear and the ACTIVE count has reached its
floor; none for a head whose flag is set. -/
def servedRecords (c : CycleNumber) (active : Nat) : List Demand → List Note
  | d :: _ => if d.served = false ∧ d.floor ≤ active then [⟨c, .served d.tag active⟩] else []
  | [] => []

/-- A station whose membership a MARK with cycle number `c` has ended, in the state `now` for the reason `why`
(R68, R72): every collection is cleared, and the records queued in the event, behind those of `before`, hold the one
STATE record of it, preceded at most by a STATE (MEMBER, NONE) of a JOINING station. -/
def State.DroppedOut (t before : State) (c : CycleNumber) (now : StationState) (why : Cause) : Prop :=
  t.member.station = now ∧ t.member.exitCause = why ∧ t.map = SlotMap.cleared ∧
  t.peers = PeerTable.cleared ∧ t.holdings = [] ∧ t.outbox = Outbox.empty ∧
  t.planner = ⟨false, [], false, 0, 0⟩ ∧ t.output = ⟨.idle, false⟩ ∧ t.sag.derateRemaining = 0 ∧
  t.line.tx = .silent ∧ (∀ d, t.demands.head? = some d → d.served = false) ∧
  ∃ queued first : List Note, t.notes = before.notes.after queued ∧
    recordsOfKind 5 queued = first ++ [⟨c, .state now why 0⟩] ∧
    (first = [] ∨ before.member.station = .joining ∧ ∃ live, first = [⟨c, .state .member .none live⟩])

/-- The notice that the Outbox takes into flight, with the fields its kind takes then, and the Outbox without it
(R144, R26, R42, R98): the waiting one of the lowest kind, a MARK at a MEMBER alone (R142) and a CLAIM while quorate
alone (R76). -/
def State.Offers (s : State) (n : Notice) (rest : Outbox) : Prop :=
  let o := s.outbox
  let c := s.cfg
  let noMark := o.mark = none ∨ s.member.station ≠ .member
  (∃ k, o.mark = some k ∧ s.member.station = .member ∧ rest = { o with mark := none } ∧
    n = .mark ⟨k, c.slotLength, c.budget, c.deratedBudget, c.period, c.expiry, c.quorum, c.derateHold,
      s.sag.derateRemaining - 1⟩) ∨
  (noMark ∧ o.sag = true ∧ n = .sag ∧ rest = { o with sag := false }) ∨
  (noMark ∧ o.sag = false ∧ ∃ t x, o.contest = some (t, x) ∧ n = .contest t x ∧
    rest = { o with contest := none }) ∨
  (noMark ∧ o.sag = false ∧ o.contest = none ∧ ∃ x, o.release = some x ∧ n = .release x ∧
    rest = { o with release := none }) ∨
  (noMark ∧ o.sag = false ∧ o.contest = none ∧ o.release = none ∧ o.leave = true ∧ n = .leave ∧
    rest = { o with leave := false }) ∨
  (noMark ∧ o.sag = false ∧ o.contest = none ∧ o.release = none ∧ o.leave = false ∧ o.presence = true ∧
    rest = { o with presence := false } ∧
    ∃ x : SlotSet, (∀ k, slotIn x k = listsLive (s.map.get k) s.id) ∧
      n = .presence ⟨if s.member.station = .member then .member else .joining,
        (s.demands.head?.map Demand.priority).getD 0, c.load, x⟩) ∨
  (noMark ∧ o.sag = false ∧ o.contest = none ∧ o.release = none ∧ o.leave = false ∧ o.presence = false ∧
    ∃ x, o.claim = some x ∧ s.quorate = true ∧ rest = { o with claim := none } ∧
      n = .claim ⟨c.load, (s.demands.head?.map Demand.priority).getD 0, x⟩)

/-- The holdings with all but the first `k` PENDING and ACTIVE entries, in grant order, made RELEASING (R86). -/
def demote : Nat → List Holding → List Holding
  | _, [] => []
  | k, h :: hs =>
    if h.state = .releasing then h :: demote k hs
    else
      match k with
      | 0 => { h with state := .releasing } :: demote 0 hs
      | k + 1 => h :: demote k hs

/-- What a mark with cycle number `c` makes of another station's record: an expiring peer's live record takes
an orphan part (R15), an orphan of another origin counts down and goes at zero (R16). -/
def markedRecord (c : CycleNumber) (expiry : Nat) (expires : StationId → Bool) (r : HolderRecord) :
    Option HolderRecord :=
  match r.orphan with
  | none => if expires r.station then some { r with orphan := some ⟨c, expiry⟩ } else some r
  | some o =>
    if o.marksLeft = 0 then none
    else if o.origin = c then some r
    else if o.marksLeft ≤ 1 then none
    else some { r with orphan := some ⟨o.origin, o.marksLeft - 1⟩ }

/-- A slot after a PRESENCE of `p` (R44 to R46, Table 3-3): the orphan of a returning peer goes, an unannounced
record goes, and an announced slot without a record takes one if it fits under B. -/
def reconciled (budget : Nat) (p : StationId) (units : Nat) (returning announced : Bool) (e : SlotEntry) :
    SlotEntry :=
  let kept := e.filter fun r =>
    !(r.station == p && ((returning && r.orphan.isSome) || !announced))
  if announced = true ∧ (∀ r ∈ kept, r.station ≠ p) ∧ (kept.map HolderRecord.units).sum + units ≤ budget then
    kept ++ [⟨p, units, none⟩]
  else kept

/-- Whether an announced slot goes into the contest set (R46, case 2 of Table 3-3). -/
def mustContest (budget : Nat) (p : StationId) (units : Nat) (returning announced : Bool) (e : SlotEntry) :
    Bool :=
  let kept := e.filter fun r =>
    !(r.station == p && ((returning && r.orphan.isSome) || !announced))
  announced && decide ((∀ r ∈ kept, r.station ≠ p) ∧ budget < (kept.map HolderRecord.units).sum + units)

/-- A slot after a CLAIM of `p` that names it (R7, Table 1-3). -/
def admitted (budget : Nat) (p : StationId) (units : Nat) (e : SlotEntry) : SlotEntry :=
  if (∃ r ∈ e, r.station = p) ∨ budget < (e.map HolderRecord.units).sum + units then e
  else e ++ [⟨p, units, none⟩]

/-- The host commands with their codes and the number of field bytes behind the code (Table 10-7). -/
def hostCommands (f : HostFrame) : List (Instr × Byte × Nat) :=
  [(.nop f, 0x00, 0), (.setup f, 0x01, 12), (.enter f, 0x02, 0), (.leave f, 0x03, 0), (.restart f, 0x04, 0),
    (.demandAppend f, 0x05, 7), (.demandReplace f, 0x06, 7), (.withdraw f, 0x07, 1), (.status f, 0x08, 0),
    (.nextNote f, 0x09, 0), (.snap f, 0x0A, 0), (.snapRead f, 0x0B, 1), (.peersRead f, 0x0C, 1),
    (.queueRead f, 0x0D, 0)]

/-- Every law at once. -/
structure State.Safe (s : State) : Prop where
  setup : s.SetupLaw
  rest : s.RestLaw
  budget : s.BudgetLaw
  holderLists : s.HolderListLaw
  orphans : s.OrphanLaw
  holdings : s.HoldingLaw
  heldAmount : s.HeldAmountLaw
  demands : s.DemandLaw
  served : s.ServedLaw
  standing : s.StandingLaw
  output : s.OutputLaw
  drive : s.DriveLaw
  closing : s.ClosingLaw
  lineRanges : s.LineRanges
  claims : s.ClaimLaw
  outbox : s.OutboxLaw
  timer : s.TimerLaw
  silence : s.SilenceLaw
  notes : s.NoteLaw

end Sys2Proof.Machine
end

