-- ==== Sys2Proof/Certificates/Slice0/Obligations.lean ====
section
/-!
DEFINITION. The statements for the provers. A statement about a command says what `exec` answers for it, under
hypotheses on the state and the operands alone; an equation between whole states says the frame as well.
-/

open Sys2Proof Sys2Proof.Machine

/-! ### The machine -/

/-- Step takes the command at the front of the queue and runs it on the state with the queue's rest. -/
def Obligations.StepTakesTheFrontCommand : Prop :=
  ∀ (c : Instr) (cs : List Instr) (s : State),
    step (s.withPending (c :: cs)) = exec c (s.withPending cs)

/-- The model's choice for an idle block (assumption 2): on an empty queue `pass 1` happens, and what passing time
does (R22, R28, R33, R69, R104, R130): each running timer advances and holds at its limit, and the wait for the
first idle ends when twelve bit times have passed without a falling edge (R131; a field of the model's own,
assumption 9). A frame kept for the moment of a lapse is kept no longer (assumption 31). Nothing else changes. The
limits are L, 64 × L, (E + 1) × 64 × L, E × 64 × L, S, G and twelve bit times, in periods of 125 ns. -/
def Obligations.TimePassesOnAnEmptyQueue : Prop :=
  (∀ s : State, s.pending = [] → step s = .next (s.pass 1)) ∧
  (∀ s : State,
    s.slotTicks = s.cfg.slotLength * 2000 ∧ s.cycleTicks = 64 * (s.cfg.slotLength * 2000) ∧
    s.foundingTicks = (s.cfg.expiry + 1) * (64 * (s.cfg.slotLength * 2000)) ∧
    s.lapseTicks = s.cfg.expiry * (64 * (s.cfg.slotLength * 2000)) ∧
    s.filterTicks = s.cfg.sagFilter * 2000 ∧ s.guardTicks = s.cfg.guard * 2000 ∧
    Config.idleTicks = 12 * 160 ∧ Config.joinTicks = 40) ∧
  ∀ (n : Nat) (s : State), ∃ (tm : CycleTimer) (mb : Membership) (sg : SagMonitor) (ln : LineController),
    s.pass n = (((s.withTimer tm).withMember mb).withSag sg).withLine ln ∧
    (s.timer.phase = .unaligned → tm.phase = .unaligned) ∧
    (∀ k t, s.timer.phase = .inSlot k t → tm.phase = .inSlot k (min s.slotTicks (t + n))) ∧
    (∀ t a, s.timer.phase = .inGap t a → tm.phase = .inGap (min s.cycleTicks (t + n)) a) ∧
    tm.founding = (if s.member.station = .joining then min s.foundingTicks (s.timer.founding + n)
      else s.timer.founding) ∧
    mb.lapseWait = (if s.member.station = .lapsed then min s.lapseTicks (s.member.lapseWait + n)
      else s.member.lapseWait) ∧
    sg.filter = (if s.setup.isSome ∧ s.sag.sagin ≠ s.sag.condition then min s.filterTicks (s.sag.filter + n)
      else s.sag.filter) ∧
    ln.idleTime = (if s.listens = true ∧ s.line.rx = .idle then
        min Config.idleTicks (s.line.idleTime + n) else s.line.idleTime) ∧
    tm.cycle = s.timer.cycle ∧ tm.planningDue = s.timer.planningDue ∧
    mb = { s.member with lapseWait := mb.lapseWait } ∧ sg = { s.sag with filter := sg.filter } ∧
    ln = { s.line with
      idleTime := ln.idleTime
      awaitingIdle := s.line.awaitingIdle && decide (ln.idleTime < Config.idleTicks)
      closing := s.line.closing && decide (n = 0) }

/-- No command stops the machine or touches the queue; the sampled ID and the level of RSTN change by the reset
commands alone (R62; that RSTN_ASSERTED keeps the ID is the model's choice, assumption 34), and the setup by SETUP and
the reset commands alone (R152, R75). -/
def Obligations.EveryCommandAnswersNext : Prop :=
  ∀ (c : Instr) (s : State), ∃ t : State, exec c s = .next t ∧ t.pending = s.pending ∧
    ((∀ p, c ≠ .powerOn p) → (∀ p, c ≠ .rstnNegated p) →
      t.id = s.id ∧ (c ≠ .rstnAsserted →
        t.rstn = s.rstn ∧ ((∀ f, c ≠ .setup f) → t.setup = s.setup)))

/-! ### Reset -/

/-- The state after reset satisfies every law. -/
def Obligations.ResetIsSafe : Prop := State.reset.Safe

/-- POWER_ON, RSTN_ASSERTED and RSTN_NEGATED (R61, R62, R148): the power-on condition of `State.reset`, with the ID
sampled and its one STATE record where the station starts, and with no record while RSTN is held. A host transaction
in progress as the station starts is abandoned. What the model's reset state chooses where the spec gives no value is
named in assumptions 1, 12 and 13; that the ID keeps its old value while RSTN is held is another choice (assumption
34); that POWER_ON under an asserted RSTN leaves the station held until the negation
is the model's reading (assumption 28), and that RSTN_NEGATED does nothing where RSTN is not asserted is another
(assumption 4). -/
def Obligations.ResetCommandsGiveThePowerOnCondition : Prop :=
  ∀ (pins : ResetPins) (s : State),
    let fresh : State := { State.reset with
      pending := s.pending
      id := s.id
      sag := { State.reset.sag with sagin := s.sag.sagin }
      snap := { s.snap with valid := false, pending := false } }
    let held : State := { fresh with rstn := true, notes := ⟨[], false⟩ }
    let started : State := { fresh with
      id := pins.id
      port := { State.reset.port with abandoned := pins.csnLow } }
    exec (.powerOn pins) s = .next (if s.rstn then held else started) ∧
    exec .rstnAsserted s = .next held ∧
    exec (.rstnNegated pins) s = .next (if s.rstn then started else s)

/-- While RSTN is asserted the station holds its power-on condition: no command but a reset command and SAGIN_CHANGE,
the level of a pin, changes anything. That no other event is taken in that time is read from R61 and R148
(assumption 28). -/
def Obligations.AssertedResetHoldsTheStation : Prop :=
  ∀ (c : Instr) (s : State), s.rstn = true →
    (∀ p, c ≠ .powerOn p) → c ≠ .rstnAsserted → (∀ p, c ≠ .rstnNegated p) → (∀ b, c ≠ .saginChange b) →
    exec c s = .next s

/-! ### The host port -/

/-- R148 and R150: the bits clocked in make bytes, most significant bit first, and the first whole byte names the
command (Table 10-7). A rise of CSN that ends a transaction caught by a reset takes no command. A transaction of no
whole byte, or one that names another row, takes none either and writes nothing (assumptions 4 and 17). A frame with
too few bytes, further bits after the last whole byte, or a padding byte other than 00h, and a frame whose first byte
is no command code, are answered BAD_FRAME with the code that was clocked in and change nothing else. A command
refused for its state is answered WRONG_STATE and changes nothing else (Table 9-2). -/
def Obligations.RefusedFramesChangeNothingElse : Prop :=
  (∀ (bytes : List Byte) (further : List Bool), further.length < 8 →
    (⟨bytes.flatMap (fun b => (List.range 8).map b.getMsbD) ++ further⟩ : HostFrame).bytes = bytes) ∧
  ∀ (f : HostFrame) (s : State), s.rstn = false →
    (f.bytes = [] → commandOf f = none) ∧
    (∀ row ∈ hostCommands f,
      (s.port.abandoned = true → exec row.1 s = .next { s with port := { s.port with abandoned := false } }) ∧
      (s.port.abandoned = false →
        (f.bytes.head? ≠ some row.2.1 → exec row.1 s = .next s) ∧
        (f.bytes.head? = some row.2.1 → commandOf f = some row.1 ∧
          (¬ Fits f row.2.1 row.2.2 → exec row.1 s = .next (s.respond row.2.1 .badFrame []))))) ∧
    (∀ code : Byte,
      (s.port.abandoned = true →
        exec (.unknownCommandCode code f) s = .next { s with port := { s.port with abandoned := false } }) ∧
      (s.port.abandoned = false →
        (f.bytes.head? = some code → 13 < code.toNat →
          commandOf f = some (.unknownCommandCode code f) ∧
          exec (.unknownCommandCode code f) s = .next (s.respond code .badFrame [])) ∧
        (f.bytes.head? ≠ some code ∨ code.toNat ≤ 13 → exec (.unknownCommandCode code f) s = .next s))) ∧
    (s.port.abandoned = false →
      (Fits f 0x01 12 → s.member.station ≠ .offline →
        exec (.setup f) s = .next (s.respond 0x01 .wrongState [])) ∧
      (Fits f 0x02 0 → s.member.station ≠ .offline →
        exec (.enter f) s = .next (s.respond 0x02 .wrongState [])) ∧
      (s.member.station ≠ .joining → s.member.station ≠ .member →
        (Fits f 0x03 0 → exec (.leave f) s = .next (s.respond 0x03 .wrongState [])) ∧
        (Fits f 0x0A 0 → exec (.snap f) s = .next (s.respond 0x0A .wrongState []))) ∧
      (s.member.station = .faulted →
        (Fits f 0x05 7 → exec (.demandAppend f) s = .next (s.respond 0x05 .wrongState [])) ∧
        (Fits f 0x06 7 → exec (.demandReplace f) s = .next (s.respond 0x06 .wrongState []))))

/-- R151: NOP is answered OK with no data in every state and changes nothing else. -/
def Obligations.NopAnswersOkAndChangesNothing : Prop :=
  ∀ (f : HostFrame) (s : State), s.Ready → Fits f 0x00 0 →
    exec (.nop f) s = .next { s with port := { s.port with response := ⟨0x00, .ok, []⟩ } }

/-- R152: in OFFLINE the twelve fields are tested together against Table 9-3 and taken whole or not at all. The
staging is empty afterwards. The model's own window field is clear (assumption 6). -/
def Obligations.SetupIsTakenWholeOrNotAtAll : Prop :=
  ∀ (l b bd p e q d u g sf mode pol : Byte) (pad : List Byte) (f : HostFrame) (s : State),
    s.Ready → s.member.station = .offline → (∀ x ∈ pad, x = 0) → f.bits.length % 8 = 0 →
    f.bytes = [0x01, l, b, bd, p, e, q, d, u, g, sf, mode, pol] ++ pad →
    exec (.setup f) s = .next (
      if (8 ≤ l.toNat ∧ l.toNat ≤ 128) ∧ 1 ≤ b.toNat ∧ bd.toNat ≤ b.toNat ∧
          (1 ≤ p.toNat ∧ p.toNat ≤ 4) ∧ (2 * p.toNat + 1 ≤ e.toNat ∧ e.toNat ≤ 15) ∧
          (1 ≤ q.toNat ∧ q.toNat ≤ 32) ∧ (1 ≤ d.toNat ∧ d.toNat ≤ 15) ∧
          (1 ≤ u.toNat ∧ u.toNat ≤ b.toNat ∧ u.toNat ≤ 63) ∧ (1 ≤ g.toNat ∧ 4 * g.toNat ≤ l.toNat) ∧
          (1 ≤ sf.toNat ∧ sf.toNat ≤ 15) ∧ mode.toNat ≤ 1 ∧ pol.toNat ≤ 1 then
        { s with
          setup := some ⟨l.toNat, b.toNat, bd.toNat, p.toNat, e.toNat, q.toNat, d.toNat, u.toNat, g.toNat,
            sf.toNat, if mode = 0 then .shared else .localOnly, if pol = 0 then .activeHigh else .activeLow⟩
          output := ⟨.idle, false⟩
          sag := { s.sag with filter := 0, condition := false, derateRemaining := 0, windowOpen := false }
          port := ⟨⟨0x01, .ok, []⟩, none, false⟩ }
      else { s with port := ⟨⟨0x01, .badParam, []⟩, none, false⟩ })

/-- R63: ENTER in OFFLINE goes to JOINING with a PRESENCE and STATE (JOINING, NONE) queued, or is refused with
NOT_READY where no setup is held. The line counts as busy until twelve bit times of idle (R131), which the model
keeps in a field of its own (assumption 9). -/
def Obligations.EnterGoesToJoining : Prop :=
  ∀ (f : HostFrame) (s : State), s.Ready → Fits f 0x02 0 → s.member.station = .offline →
    exec (.enter f) s = .next (
      if s.setup.isSome then
        (State.note (.state .joining .none (allStations.filter fun p => (s.peers.get p).counts).length)
          { s with
            member := { s.member with station := .joining, joiningCount := 0, ownPresence := false }
            timer := { s.timer with founding := 0 }
            line := ⟨.idle, 0, true, false, .silent, none, 0, 0, 0⟩
            outbox := { s.outbox with presence := true } }).respond 0x02 .ok []
      else s.respond 0x02 .notReady [])

/-- R73: LEAVE in JOINING and MEMBER is answered OK. The station goes to LEAVING with exit cause HOST_LEAVE; its
own live records (R18), its holdings and every waiting notice go, the output turns off, the planner is cleared, a
LEAVE is queued behind the notice in flight, and the demands end with DONE (LEFT) in queue order, each with its tag
and its remaining span, before STATE (LEAVING, HOST_LEAVE). -/
def Obligations.LeaveEndsService : Prop :=
  ∀ (f : HostFrame) (s : State), s.Ready → Fits f 0x03 0 →
    s.member.station = .joining ∨ s.member.station = .member →
    ∃ m : SlotMap,
      exec (.leave f) s = .next (
        { s with
          member := { s.member with station := .leaving, exitCause := .hostLeave }
          map := m
          holdings := []
          output := ⟨.idle, false⟩
          outbox := { Outbox.empty with leave := true, inFlight := s.outbox.inFlight }
          planner := ⟨false, [], false, 0, 0⟩
          timer := { s.timer with founding := 0 }
          demands := []
          notes := s.notes.after ((s.demands.map fun d =>
            (⟨s.timer.cycle, .done d.tag d.remaining .left⟩ : Note)) ++
              [⟨s.timer.cycle, .state .leaving .hostLeave 0⟩])
          port := { s.port with response := ⟨0x03, .ok, []⟩ } } : State) ∧
      ∀ k, m.get k = (s.map.get k).filter fun r => !(r.station == s.id && r.orphan.isNone)

/-- R75: RESTART in every state empties everything but the setup and the ID, and queues the one STATE record. Items
that have a meaning in one station state only read 0 afterwards (the model's choice, assumption 13), and the
snapshot's contents, which have no meaning until the next latch, stay (assumption 12). -/
def Obligations.RestartKeepsOnlySetupAndId : Prop :=
  ∀ (f : HostFrame) (s : State), s.Ready → Fits f 0x04 0 →
    exec (.restart f) s = .next
      { State.reset with
        pending := s.pending
        id := s.id
        setup := s.setup
        member := { State.reset.member with exitCause := .hostRestart }
        notes := ⟨[⟨0, .state .offline .hostRestart 0⟩], false⟩
        sag := { State.reset.sag with sagin := s.sag.sagin }
        port := { response := ⟨0x04, .ok, []⟩, staging := none, abandoned := false }
        snap := { s.snap with valid := false, pending := false } }

/-- R83 and R84: DEMAND in its two forms outside FAULTED, the checks in their order. The replace form ends every held
demand with DONE (REPLACED) in queue order. What the head change does is stated in
`HeadChangeFitsHoldingsToTheHead`. -/
def Obligations.DemandIsPlacedOrRefusedInOrder : Prop :=
  ∀ (code tag k m pr pl s1 s0 : Byte) (pad : List Byte) (f : HostFrame) (s : State),
    s.Ready → s.member.station ≠ .faulted → (∀ x ∈ pad, x = 0) → f.bits.length % 8 = 0 →
    f.bytes = [code, tag, k, m, pr, pl, s1, s0] ++ pad →
    let fair : Prop := 1 ≤ tag.toNat ∧ (1 ≤ k.toNat ∧ k.toNat ≤ 64) ∧ (1 ≤ m.toNat ∧ m.toNat ≤ k.toNat) ∧
      pr.toNat ≤ 3 ∧ pl.toNat ≤ 1
    let span := s1.toNat * 256 + s0.toNat
    let d : Demand := ⟨tag, k.toNat, m.toNat, Fin.ofNat 4 pr.toNat, if pl = 0 then .pack else .spread, span,
      span, false⟩
    let replaced := s.notes.after (s.demands.map fun x => ⟨s.timer.cycle, .done x.tag x.remaining .replaced⟩)
    (code = 0x06 →
      (¬ fair → exec (.demandReplace f) s = .next (s.respond 0x06 .badParam [])) ∧
      (fair → exec (.demandReplace f) s = .next
        (((s.withNotes replaced).withDemands [d]).headChange.respond 0x06 .ok []))) ∧
    (code = 0x05 →
      (¬ fair → exec (.demandAppend f) s = .next (s.respond 0x05 .badParam [])) ∧
      (fair → (∃ x ∈ s.demands, x.tag = tag) →
        exec (.demandAppend f) s = .next (s.respond 0x05 .badParam [])) ∧
      (fair → (∀ x ∈ s.demands, x.tag ≠ tag) → 8 ≤ s.demands.length →
        exec (.demandAppend f) s = .next (s.respond 0x05 .full [])) ∧
      (fair → (∀ x ∈ s.demands, x.tag ≠ tag) → s.demands.length < 8 →
        exec (.demandAppend f) s = .next (
          if s.demands = [] then (s.withDemands [d]).headChange.respond 0x05 .ok []
          else (s.withDemands (s.demands ++ [d])).respond 0x05 .ok [])))

/-- R85: WITHDRAW in every state. A tag that no held demand carries is NOT_FOUND; otherwise the demand leaves its
place with DONE (WITHDRAWN), and the head change follows where it was the head. The tags held are distinct (R81). Of a
tag of 0, which no demand carries, R167 could be read to ask BAD_PARAM; NOT_FOUND by R85 is the model's reading
(assumption 24). -/
def Obligations.WithdrawEndsTheNamedDemand : Prop :=
  ∀ (f : HostFrame) (s : State), s.Ready → Fits f 0x07 1 → (s.demands.map Demand.tag).Nodup →
    ((∀ d ∈ s.demands, d.tag ≠ f.bytes.getD 1 0) →
      exec (.withdraw f) s = .next (s.respond 0x07 .notFound [])) ∧
    (∀ before d after, s.demands = before ++ d :: after → d.tag = f.bytes.getD 1 0 →
      let t := (s.withDemands (before ++ after)).note (.done d.tag d.remaining .withdrawn)
      exec (.withdraw f) s = .next ((if before = [] then t.headChange else t).respond 0x07 .ok []))

/-- R86 and R99: at a head change all but the first k PENDING and ACTIVE entries in grant order become RELEASING
with one RELEASE for their slots, a waiting CLAIM is fitted to the room that is left, and the new head's served
flag is clear. Nothing else changes but the output, which follows the list (R123, R124; under carry with both entries
gone the phase is the model's choice, assumption 30). -/
def Obligations.HeadChangeFitsHoldingsToTheHead : Prop :=
  ∀ s : State, (s.holdings.map Holding.slot).Nodup →
    let k := match s.demands with
      | [] => 0
      | d :: _ => d.want
    let n := (s.holdings.filter fun h => decide (h.state ≠ .releasing)).length
    let surplus := ((s.holdings.filter fun h => decide (h.state ≠ .releasing)).map Holding.slot).drop k
    let room := k - n
    ∃ (o : Outbox) (pl : ClaimPlanner) (out : LoadOutput),
      s.headChange = ((((s.withHoldings (demote k s.holdings)).withOutbox o).withPlanner pl).withOutput out).withDemands
        (match s.demands with
          | [] => []
          | d :: ds => { d with served := false } :: ds) ∧
      o = { s.outbox with claim := o.claim, release := o.release } ∧
      o.release = (s.outbox.queueRelease (slotSetOf surplus)).release ∧
      pl = { s.planner with claimOutstanding := pl.claimOutstanding, pickOrder := pl.pickOrder } ∧
      (s.outbox.claim = none → o.claim = none ∧ pl = s.planner) ∧
      (s.outbox.claim.isSome = true →
        (room = 0 → o.claim = none ∧ pl.claimOutstanding = false ∧ pl.pickOrder = []) ∧
        (0 < room → s.planner.pickOrder.length ≤ room → o.claim = s.outbox.claim ∧ pl = s.planner) ∧
        (0 < room → room < s.planner.pickOrder.length →
          o.claim = some (slotSetOf (s.planner.pickOrder.take room)) ∧
          pl = { s.planner with pickOrder := s.planner.pickOrder.take room })) ∧
      (s.output.phase ≠ .on → out = s.output) ∧
      (s.OutputLaw → s.output.phase = .on → ∀ j e, s.timer.phase = .inSlot j e →
        out = if j ∈ surplus then ⟨.idle, false⟩
          else if s.output.carry = true ∧ (nextSlot j).any (fun i => surplus.contains i) = true then
            ⟨.tail, false⟩
          else s.output)

/-- R153: STATUS reports the values of Table 9-4 in the layout of Table 10-10, then clears the overflow flag and the
exit cause record. The Outbox occupancy is the number of notices held, waiting and in flight together. -/
def Obligations.StatusReportsThenClears : Prop :=
  ∀ (f : HostFrame) (s : State), s.Ready → Fits f 0x08 0 →
    exec (.status f) s = .next
      { s with
        notes := { s.notes with overflow := false }
        member := { s.member with exitCause := .none }
        port := { s.port with response := ⟨0x08, .ok,
          [BitVec.ofNat 8 s.member.station.code,
            BitVec.ofNat 8 ((if s.quorate then 1 else 0) + (if s.sag.condition then 2 else 0)
              + (if s.notes.overflow then 4 else 0) + (if s.setup.isSome then 8 else 0)),
            BitVec.ofNat 8 (if s.member.station = .joining ∨ s.member.station = .member then s.liveCount
              else 0),
            BitVec.ofNat 8 (s.timer.cycle.toNat / 256), BitVec.ofNat 8 (s.timer.cycle.toNat % 256),
            BitVec.ofNat 8 s.sag.derateRemaining,
            BitVec.ofNat 8 (s.outbox.mark.isSome.toNat + s.outbox.sag.toNat + s.outbox.contest.isSome.toNat
              + s.outbox.release.isSome.toNat + s.outbox.leave.toNat + s.outbox.presence.toNat
              + s.outbox.claim.isSome.toNat + s.outbox.inFlight.isSome.toNat),
            BitVec.ofNat 8 s.demands.length, BitVec.ofNat 8 s.notes.records.length,
            BitVec.ofNat 8 s.member.exitCause.code]⟩ } }

/-- R156, R158, R160, R162 and R163: NEXT_NOTE takes the oldest record, SNAP asks for a latch, and the pages and
the queue are read without changing anything. -/
def Obligations.ReadingCommandsAnswer : Prop :=
  ∀ (f : HostFrame) (s : State), s.Ready →
    (Fits f 0x09 0 → exec (.nextNote f) s = .next (
      match s.notes.records with
      | [] => s.respond 0x09 .empty []
      | n :: ns => { s with
          notes := { s.notes with records := ns }
          port := { s.port with response := ⟨0x09, .ok, n.bytes⟩ } })) ∧
    (Fits f 0x0A 0 → s.member.station = .joining ∨ s.member.station = .member →
      exec (.snap f) s = .next { s with
        snap := { s.snap with valid := false, pending := true }
        port := { s.port with response := ⟨0x0A, .ok, []⟩ } }) ∧
    (Fits f 0x0D 0 → exec (.queueRead f) s = .next (s.respond 0x0D .ok s.queueData)) ∧
    let page := (f.bytes.getD 1 0).toNat
    (Fits f 0x0B 1 → exec (.snapRead f) s = .next (
      if 7 < page then s.respond 0x0B .badParam []
      else if s.snap.valid then s.respond 0x0B .ok (s.snap.pageData page)
      else s.respond 0x0B .notReady [])) ∧
    (Fits f 0x0C 1 → exec (.peersRead f) s = .next (
      if 3 < page then s.respond 0x0C .badParam [] else s.respond 0x0C .ok (s.peersPage page)))

/-- R148, R149, R154, R160, R162, R163 and R168: SDO is high-impedance while CSN is high, and while it is low carries
the response's code (Table 10-8), status and data and then FFh, each byte most significant bit first; a reset that
holds the station or has caught the transaction leaves its content open (assumption 32). The data of every OK
response have the fixed length of Table 10-9 and the places and codes that Section 10.4 gives them (Tables 10-10 to
10-12). What the command has no value for reads 00h. -/
def Obligations.ResponseDataFollowTheirLayout : Prop :=
  let word (v : Nat) : List Byte := [BitVec.ofNat 8 (v / 256), BitVec.ofNat 8 (v % 256)]
  (∀ (s : State) (i : Nat), s.sdo false i = 0xFF ∧ s.sdo true i =
    (s.port.response.code :: s.port.response.status.code :: s.port.response.data).getD i 0xFF) ∧
  (∀ (s : State) (ready : Bool) (i : Nat), s.sdoBit false ready i = none ∧
    (s.sdoBit true ready i).isSome = true ∧
    (s.Ready → s.sdoBit true ready i = some ((s.sdo ready (i / 8)).getMsbD (i % 8)))) ∧
  (∀ x : Status, x.code = match x with
    | .ok => 0x00 | .wrongState => 0x01 | .badParam => 0x02 | .full => 0x03
    | .notFound => 0x04 | .notReady => 0x05 | .badFrame => 0x06 | .empty => 0x07) ∧
  (∀ x : StationState, x.code = match x with
    | .offline => 0 | .joining => 1 | .member => 2 | .lapsed => 3 | .leaving => 4 | .faulted => 5) ∧
  (∀ x : Cause, x.code = match x with
    | .none => 0 | .powerOn => 1 | .hostRestart => 2 | .hostLeave => 3 | .lapsedSend => 4 | .lapsedLine => 5
    | .faultParameter => 6 | .faultDuplicate => 7 | .faultReceive => 8) ∧
  (∀ s : State, s.statusData.length = 10) ∧
  (∀ (c : CycleNumber) (body : NoteBody),
    let record (kind tag : Byte) (count : Nat) (code : Byte) : List Byte :=
      [kind] ++ word c.toNat ++ [tag] ++ word count ++ [code]
    (Note.mk c body).bytes = match body with
      | .served t n => record 1 t n 0
      | .short t n why => record 2 t n (match why with
        | .sag => 1
        | .contest => 2
        | .quorum => 3)
      | .done t n why => record 3 t n (match why with
        | .completed => 1
        | .withdrawn => 2
        | .replaced => 3
        | .left => 4)
      | .yielded n why => record 4 0 n (match why with
        | .sagShared => 1
        | .sagLocal => 2
        | .contest => 3
        | .quorum => 4)
      | .state now why n => record 5 0 n (BitVec.ofNat 8 (16 * now.code + why.code))
      | .derate n why => record 6 0 n (match why with
        | .started => 1
        | .ended => 2)) ∧
  (∀ (b : SnapshotBuffer) (page : Nat), page ≤ 7 →
    (b.pageData page).length = 35 ∧
    (b.pageData page).take 3 = [BitVec.ofNat 8 page] ++ word b.cycle.toNat ∧
    ∀ k : SlotIndex, k.val / 8 = page →
      ((b.pageData page).drop (3 + 4 * (k.val % 8))).take 4 =
        [BitVec.ofNat 8 (b.slots.get k).committed, BitVec.ofNat 8 (b.slots.get k).holders,
          BitVec.ofNat 8 (b.slots.get k).orphanUnits,
          match (b.slots.get k).own with
          | none => 0
          | some .pending => 1
          | some .active => 2
          | some .releasing => 3]) ∧
  (∀ (s : State) (page : Nat),
    let live := allStations.filter fun p => (s.peers.get p).live
    (s.peersPage page).length = 42 ∧
    (s.peersPage page).take 2 = [BitVec.ofNat 8 page, BitVec.ofNat 8 (min 8 (live.length - 8 * page))] ∧
    ∀ j < 8, ((s.peersPage page).drop (2 + 5 * j)).take 5 =
      match live[8 * page + j]? with
      | some p => [BitVec.ofNat 8 p.val, if (s.peers.get p).role = .member then 1 else 0,
          BitVec.ofNat 8 (s.peers.get p).units, BitVec.ofNat 8 (s.peers.get p).priority.val,
          BitVec.ofNat 8 (s.peers.get p).silence]
      | none => [0, 0, 0, 0, 0]) ∧
  (∀ s : State, s.demands.length ≤ 8 →
    s.queueData.length = 81 ∧ s.queueData.take 1 = [BitVec.ofNat 8 s.demands.length] ∧
    ∀ j < 8, (s.queueData.drop (1 + 10 * j)).take 10 =
      match s.demands[j]? with
      | some d => [d.tag, BitVec.ofNat 8 d.want, BitVec.ofNat 8 d.floor, BitVec.ofNat 8 d.priority.val,
          if d.placement = .spread then 1 else 0] ++ word d.span ++
          word (if d.span = 0 then 0 else d.remaining) ++ [if j = 0 ∧ d.served = true then 1 else 0]
      | none => List.replicate 10 0)

/-! ### The Sag Monitor -/

/-- R104, R106 and R107: SAGIN restarts the filter; when the filter time is up the condition changes, and in
SHARED mode a condition that becomes present at a JOINING or MEMBER station queues a SAG. The time that is missing
to S passes first (the model's choice, assumption 3). -/
def Obligations.SagConditionFollowsTheFilter : Prop :=
  (∀ (b : Bool) (s : State), exec (.saginChange b) s = .next (
    if b = s.sag.sagin then s else { s with sag := { s.sag with sagin := b, filter := 0 } })) ∧
  (∀ s : State, s.rstn = false → s.setup = none ∨ s.sag.sagin = s.sag.condition →
    exec .sagConditionChange s = .next s) ∧
  (∀ s : State, s.rstn = false → s.setup.isSome = true → s.sag.sagin ≠ s.sag.condition →
    let u := s.pass (s.filterTicks - s.sag.filter)
    let v := u.withSag { u.sag with condition := s.sag.sagin, filter := 0 }
    (s.sag.sagin = false ∨ s.onLine = false → exec .sagConditionChange s = .next v) ∧
    (s.sag.sagin = true → s.onLine = true → s.cfg.sagMode = .shared →
      exec .sagConditionChange s = .next (v.withOutbox { v.outbox with sag := true })))

/-- R114: in LOCAL mode a condition that becomes present sheds a MEMBER's holdings and sets the local hold; at a
JOINING station only the hold is set. The time that is missing to S passes first (the model's choice, assumption 3).
Where it sheds the entries of both slots under carry, the phase IDLE is the model's choice (assumption 30). That the
records depend on the order of a shed and a mark at one moment, against R115's last sentence, is another (assumption
35). -/
def Obligations.LocalSagShedsTheHoldings : Prop :=
  ∀ s : State, s.rstn = false → s.setup.isSome = true → s.sag.sagin = true → s.sag.condition = false →
    s.onLine = true → s.cfg.sagMode = .localOnly →
    let u := s.pass (s.filterTicks - s.sag.filter)
    let n := (s.holdings.filter fun h => decide (h.state ≠ .releasing)).length
    let yielded := if n = 0 then u else u.note (.yielded n .sagLocal)
    let short := match s.demands with
      | d :: _ => if d.served then yielded.note (.short d.tag 0 .sag) else yielded
      | [] => yielded
    ∃ (o : Outbox) (pl : ClaimPlanner) (out : LoadOutput),
      o = { s.outbox with claim := none, release := o.release } ∧
      pl = { s.planner with
        claimOutstanding := s.planner.claimOutstanding && s.outbox.claim.isNone
        pickOrder := if s.outbox.claim.isSome then [] else s.planner.pickOrder
        yieldHold := true
        localHold := s.cfg.derateHold } ∧
      let held := (((u.withSag { u.sag with condition := true, filter := 0 }).withOutbox o).withPlanner pl)
      (s.member.station = .joining →
        exec .sagConditionChange s = .next held ∧ o.release = s.outbox.release) ∧
      (s.member.station = .member →
        exec .sagConditionChange s = .next
          ((((held.withHoldings (s.holdings.map fun h => { h with state := .releasing })).withOutput
            out).withNotes short.notes).withDemands
              (match s.demands with
                | [] => []
                | d :: ds => { d with served := false } :: ds)) ∧
        o.release = (s.outbox.queueRelease (slotSetOf
          ((s.holdings.filter fun h => decide (h.state ≠ .releasing)).map Holding.slot))).release ∧
        (s.output.phase ≠ .on → out = s.output) ∧
        (s.OutputLaw → s.output.phase = .on → out = ⟨.idle, false⟩))

/-- R109, R111 and R103: a SAG from any station begins or extends the window at a JOINING or MEMBER station, and a
MEMBER that the designation names releases those slots, sets its yield hold and reports. That a window runs is
kept in a field of the model's own (assumption 6); the phase under carry where both entries go is the model's choice
(assumption 30). -/
def Obligations.SagBeginsTheWindowAndYields : Prop :=
  ∀ (s u : State) (p : StationId), s.Completes p .sag u → s.onLine = true →
    let w := (if u.sag.derateRemaining = 0 then u.note (.derate u.cfg.derateHold .started) else u).withSag
      { u.sag with derateRemaining := u.cfg.derateHold, windowOpen := true }
    let prio (q : StationId) : Priority :=
      if q = u.id then u.planner.announcedPriority else (u.peers.get q).priority
    let x := if u.member.station = .member then
      u.map.designatedSlots u.cfg.deratedBudget prio u.id else 0
    let named := (u.holdings.filter fun h => decide (h.state ≠ .releasing) && slotIn x h.slot).map Holding.slot
    let holdings := u.holdings.map fun h => if slotIn x h.slot then { h with state := .releasing } else h
    let active := (holdings.filter fun h => decide (h.state = .active)).length
    let yielded := if named = [] then w else w.note (.yielded named.length .sagShared)
    (x = 0 → exec (.sagComplete p) s = .next w) ∧
    (x ≠ 0 → ∃ (o : Outbox) (out : LoadOutput),
      o = { u.outbox with claim := none, release := (u.outbox.queueRelease (slotSetOf named)).release } ∧
      (u.output.phase ≠ .on → out = u.output) ∧
      (u.OutputLaw → u.output.phase = .on → ∀ j e, u.timer.phase = .inSlot j e →
        out = if slotIn x j then ⟨.idle, false⟩
          else if u.output.carry = true ∧ (nextSlot j).any (slotIn x) = true then ⟨.tail, false⟩
          else u.output) ∧
      let t := (((w.withHoldings holdings).withOutbox o).withPlanner
        { u.planner with
          claimOutstanding := u.planner.claimOutstanding && u.outbox.claim.isNone
          pickOrder := if u.outbox.claim.isSome then [] else u.planner.pickOrder
          yieldHold := true }).withOutput out
      exec (.sagComplete p) s = .next (
        match u.demands with
        | d :: ds =>
          if d.served = true ∧ active < d.floor then
            (t.withNotes (yielded.note (.short d.tag active .sag)).notes).withDemands
              ({ d with served := false } :: ds)
          else t.withNotes yielded.notes
        | [] => t.withNotes yielded.notes))

/-- R110: the yield order is every live record once, lowest priority first and among equals the last in grant
order first; the designation is the shortest part of it, from its front, that brings the slot within Bd, or all of
it where none does. The slots designated for a station are those whose designation names it. -/
def Obligations.DesignationIsTheShortestSufficientYield : Prop :=
  ∀ (bd : Nat) (prio : StationId → Priority) (e : SlotEntry),
    let order := yieldOrder prio e
    (order.Perm (e.filter fun r => r.orphan.isNone)) ∧
    (∀ i j (hi : i < order.length) (hj : j < order.length), i < j →
      prio order[i].station < prio order[j].station ∨
      (prio order[i].station = prio order[j].station ∧ [order[j], order[i]].Sublist e)) ∧
    ∃ n, n ≤ order.length ∧
      designated bd prio e = (order.take n).map HolderRecord.station ∧
      (∀ i < n, bd < committed e - ((order.take i).map HolderRecord.units).sum) ∧
      (n < order.length → committed e - ((order.take n).map HolderRecord.units).sum ≤ bd) ∧
      ∀ (m : SlotMap) (k : SlotIndex) (p : StationId), m.get k = e →
        slotIn (m.designatedSlots bd prio p) k = ((order.take n).map HolderRecord.station).contains p

/-! ### A mark -/

/-- R30, R31, R102, R108, R112, R41, R77, R126 and R146: in whatever order the world takes the parts of a mark, a
station that listens begins slot 0 of the MARK's cycle with its own MARK withdrawn, waiting or in flight, and the
output off; every other notice in flight stays there with its counts, and every other waiting notice waits on. A
JOINING or MEMBER station takes the derate field, queues DERATE (END) or (START) where its window ends or begins by
it, counts its local hold and queues the PRESENCE and the SAG that are due. The waiting CLAIM and RELEASE and the own
live records are those that the end of the cycle in progress has left, but for what a quorum loss takes and releases
(R77); a JOINING station under the laws has no claim, demand record or holding changed. A LAPSED or LEAVING station
does nothing more (R74). The alignment comes before the other parts (read so from R30 and R31, assumption 5), so a
station that becomes MEMBER at the mark has its output IDLE through slot 0 (assumption 22). Whether a window is open
is a field of the model's own (assumption 6). -/
def Obligations.MarkAlignsAndCounts : Prop :=
  ∀ (s u : State) (p : StationId) (m : MarkFields) (order : List MarkPart),
    s.Completes p (.mark m) u → s.StaysOn m →
    let v := match u.timer.phase with
      | .inSlot _ _ => u.cycleEnd
      | _ => u
    let ownMark : Bool := match u.outbox.inFlight with
      | some (.mark _) => true
      | _ => false
    let inFlight := if ownMark then none else u.outbox.inFlight
    let line := if ownMark then { u.line with attempts := 0, clashes := 0, broken := none } else u.line
    let founding := if s.member.station = .joining then 0 else s.timer.founding
    let before := u.sag.derateRemaining
    let ownLive (x : SlotMap) (k : SlotIndex) : SlotEntry :=
      (x.get k).filter fun r => r.station == s.id && r.orphan.isNone
    u.truncate = v ∧
    ∃ t : State, exec (.markComplete p m order) s = .next t ∧
      t.timer = ⟨.inSlot 0 0, m.cycle, founding, false⟩ ∧ t.line = line ∧
      t.port = s.port ∧ t.snap = s.snap ∧
      t.output.carry = false ∧ (t.output.phase = .lead ∨ t.output.phase = .idle) ∧
      (s.member.station = .member → s.quorate = false ∨ t.quorate = true → t.output.phase = .lead) ∧
      (s.member.station ≠ .member → t.output.phase = .idle) ∧
      (s.onLine = true → ∃ (claim release : Option SlotSet) (outstanding : Bool) (picks : List SlotIndex),
        t.outbox = { u.outbox with
          mark := none
          inFlight := inFlight
          claim := claim
          release := release
          presence := s.outbox.presence || decide (m.cycle.toNat % s.cfg.period = s.id.val % s.cfg.period)
          sag := s.outbox.sag || (decide (s.cfg.sagMode = .shared ∧ m.derate ≤ 1) && s.sag.condition) } ∧
        t.planner = { u.planner with
          claimOutstanding := outstanding
          pickOrder := picks
          localHold := s.planner.localHold - 1
          yieldHold := s.planner.yieldHold && !decide (s.planner.localHold - 1 = 0 ∧ m.derate = 0) } ∧
        t.sag = { u.sag with
          derateRemaining := m.derate
          windowOpen :=
            if before = 0 ∧ 0 < m.derate then true
            else if 0 < before ∧ m.derate = 0 then false
            else u.sag.windowOpen } ∧
        (∃ queued, t.notes = v.notes.after queued ∧
          recordsOfKind 6 queued = derateRecords m.cycle before m.derate) ∧
        (s.member.station = .member →
          t.member = { s.member with standing := s.member.standing + 1 } ∧
          (s.quorate = false ∨ t.quorate = true →
            claim = v.outbox.claim ∧ release = v.outbox.release ∧
            outstanding = v.planner.claimOutstanding ∧ picks = v.planner.pickOrder ∧
            ∀ k, ownLive t.map k = ownLive s.map k) ∧
          (s.quorate = true → t.quorate = false →
            claim = none ∧ release = (v.outbox.queueRelease (slotSetOf (v.holdings.map Holding.slot))).release ∧
            outstanding = (v.planner.claimOutstanding && v.outbox.claim.isNone) ∧
            picks = (if v.outbox.claim.isSome then [] else v.planner.pickOrder) ∧
            ∀ k, ownLive t.map k = [])) ∧
        (s.member.station = .joining → s.HoldingLaw → s.DemandLaw → s.ServedLaw → s.ClaimLaw →
          claim = none ∧ release = u.outbox.release ∧ outstanding = u.planner.claimOutstanding ∧
          picks = u.planner.pickOrder ∧ t.holdings = [] ∧ t.demands = s.demands ∧
          ∀ k, ownLive t.map k = [])) ∧
      (s.onLine = false →
        t = (((u.withTimer ⟨.inSlot 0 0, m.cycle, founding, false⟩).withOutbox
          { u.outbox with mark := none, inFlight := inFlight }).withOutput ⟨.idle, false⟩).withLine line)

/-- R70, R72, R66 and R68: a mark ends membership. A MARK that disagrees faults a JOINING station, and a MEMBER
whose standing counter does not lapse it; a MARK that raises a MEMBER's standing counter to E − 1 lapses it. One
that does both faults or lapses it, by the order in which the world takes the parts, and each comes about in some
order. In every case every collection is cleared, in whatever order the parts are taken, and the STATE record is
queued, with the MARK's cycle number (assumptions 5 and 15). -/
def Obligations.MarkEndsMembership : Prop :=
  ∀ (s u : State) (p : StationId) (m : MarkFields) (order : List MarkPart),
    s.Completes p (.mark m) u → s.onLine = true →
    let due := s.member.station = .member ∧ s.cfg.expiry ≤ s.member.standing + 2
    let faults (t : State) : Prop :=
      t.DroppedOut u.truncate m.cycle .faulted .faultParameter ∧ t.timer.phase = .unaligned
    let lapses (t : State) : Prop :=
      t.DroppedOut u.truncate m.cycle .lapsed .lapsedSend ∧ t.timer = ⟨.inSlot 0 0, m.cycle, 0, false⟩ ∧
      t.member.lapseWait = 0
    (∃ t : State, exec (.markComplete p m order) s = .next t ∧
      (¬ Agrees m s.cfg → ¬ due → faults t) ∧ (Agrees m s.cfg → due → lapses t) ∧
      (¬ Agrees m s.cfg → due → faults t ∨ lapses t)) ∧
    (¬ Agrees m s.cfg → due → ∃ (o₁ o₂ : List MarkPart) (t₁ t₂ : State),
      exec (.markComplete p m o₁) s = .next t₁ ∧ faults t₁ ∧
      exec (.markComplete p m o₂) s = .next t₂ ∧ lapses t₂)

/-- R50, R51, R15 and R16: at a mark every LIVE peer is one mark more silent and expires at E; an ABSENT peer with
live records is counted likewise and its records become orphans; every orphan of another origin counts down. -/
def Obligations.MarkCountsSilenceAndOrphans : Prop :=
  ∀ (s u : State) (p : StationId) (m : MarkFields) (order : List MarkPart),
    s.Completes p (.mark m) u → s.StaysOn m → s.onLine = true → s.SilenceLaw →
    let counted (q : StationId) : Bool := q != s.id && ((s.peers.get q).live || s.map.anyLive q)
    let expires (q : StationId) : Bool := counted q && decide (s.cfg.expiry ≤ (s.peers.get q).silence + 1)
    ∃ t : State, exec (.markComplete p m order) s = .next t ∧
      (∀ q, t.peers.get q =
        if expires q then { s.peers.get q with live := false, silence := 0 }
        else if counted q then { s.peers.get q with silence := (s.peers.get q).silence + 1 }
        else s.peers.get q) ∧
      (∀ k, (t.map.get k).filter (fun r => r.station != s.id) =
        ((s.map.get k).filter fun r => r.station != s.id).filterMap
          (markedRecord m.cycle s.cfg.expiry expires))

/-- R90, with R31, R77, R91 and R112: at a mark a MEMBER that keeps its quorum promotes every PENDING entry in its
place and queues SERVED where the head's flag is clear and its floor is reached, and none where the flag is set;
with the DERATE record of the mark, in either order, that is all it queues. One that loses its quorum holds nothing,
and queues YIELDED and SHORT as if it had been promoted before the loss, or after it. The list is the one that the
end of the cycle in progress has left. That these records carry the MARK's cycle number is read from R30 and R31
(assumption 5). -/
def Obligations.MarkPromotesPendingHoldings : Prop :=
  ∀ (s u : State) (p : StationId) (m : MarkFields) (order : List MarkPart),
    s.Completes p (.mark m) u → s.StaysOn m → s.member.station = .member →
    let v := u.truncate
    let promoted := v.holdings.map fun h => if h.state = .pending then { h with state := .active } else h
    let active := (promoted.filter fun h => decide (h.state = .active)).length
    let served := servedRecords m.cycle active v.demands
    let derate := derateRecords m.cycle v.sag.derateRemaining m.derate
    let yielded : List Note :=
      if v.holdings = [] then [] else [⟨m.cycle, .yielded v.holdings.length .quorum⟩]
    let short (flag : Bool) : List Note := match v.demands with
      | d :: _ => if flag = true then [⟨m.cycle, .short d.tag 0 .quorum⟩] else []
      | [] => []
    let flagged := v.demands.head?.any Demand.served
    ∃ (t : State) (queued : List Note), exec (.markComplete p m order) s = .next t ∧
      t.notes = v.notes.after queued ∧
      (s.quorate = false ∨ t.quorate = true →
        t.holdings = promoted ∧ queued.Perm (served ++ derate) ∧
        (∀ d ds, v.demands = d :: ds →
          t.demands = { d with served := d.served || decide (d.floor ≤ active) } :: ds) ∧
        (v.demands = [] → t.demands = [])) ∧
      (s.quorate = true → t.quorate = false →
        t.holdings = [] ∧
        (s.DemandLaw → ∃ rest : List Note, queued.Perm (rest ++ derate) ∧ rest.Sublist queued ∧
          (rest = yielded ++ short flagged ∨
            rest = served ++ yielded ++ short (flagged || !served.isEmpty))))

/-- R32, R56, R66 and R90: the order in which the world takes the parts of a mark decides nothing but the records
queued in the event, at a safe station that does not fault at it (a safe station outside MEMBER has its head's served
flag clear, R68, R72, R82). -/
def Obligations.MarkOrderDecidesOnlyTheRecords : Prop :=
  ∀ (s u : State) (p : StationId) (m : MarkFields) (o₁ o₂ : List MarkPart),
    s.Safe → s.Completes p (.mark m) u → (s.onLine = true → Agrees m s.cfg) →
    ∃ t₁ t₂ : State, exec (.markComplete p m o₁) s = .next t₁ ∧ exec (.markComplete p m o₂) s = .next t₂ ∧
      t₁.withNotes s.notes = t₂.withNotes s.notes

/-- R64, R65: a mark raises a JOINING station's joining count if it was aligned before, up to E, and makes it a
MEMBER with standing 0 where the count has reached E and its own PRESENCE has completed, with one STATE (MEMBER,
NONE) that carries the live count as it stands before or after the peers that expire at the mark (R56); otherwise no
STATE is queued. That the record carries the MARK's cycle number is read from R30 and R31 (assumption 5). -/
def Obligations.MarkCountsTowardMembership : Prop :=
  ∀ (s u : State) (p : StationId) (m : MarkFields) (order : List MarkPart),
    s.Completes p (.mark m) u → s.member.station = .joining → Agrees m s.cfg →
    let count := if s.aligned then min s.cfg.expiry (s.member.joiningCount + 1) else s.member.joiningCount
    ∃ (t : State) (queued : List Note), exec (.markComplete p m order) s = .next t ∧
      t.notes = s.notes.after queued ∧
      (s.cfg.expiry ≤ count → s.member.ownPresence = true →
        t.member = { s.member with station := .member, joiningCount := count, standing := 0 } ∧
        t.timer.founding = 0 ∧
        ∃ live, recordsOfKind 5 queued = [⟨m.cycle, .state .member .none live⟩] ∧
          (live = s.liveCount + 1 ∨ live = t.liveCount)) ∧
      (count < s.cfg.expiry ∨ s.member.ownPresence = false →
        t.member = { s.member with joiningCount := count } ∧ recordsOfKind 5 queued = [])

/-! ### What comes about inside a mark, as commands of their own -/

/-- R51, R50, R15, R16, R56: PEER_EXPIRY, ABSENT_PEER_ORPHANED and ORPHAN_COUNTDOWN_END act where their condition
stands; an expiry that takes a MEMBER's live count below Q is a quorum loss in the same event. That rows which
come about inside another event act on their own is the model's reading (assumption 6). -/
def Obligations.SilentPeersExpire : Prop :=
  ∀ (q : StationId) (s : State), s.rstn = false → s.onLine = true →
    let e := s.peers.get q
    let orphaned (m : SlotMap) : Prop := ∀ k, m.get k = (s.map.get k).map fun r =>
      if r.station = q ∧ r.orphan = none then { r with orphan := some ⟨s.timer.cycle, s.cfg.expiry⟩ } else r
    (q ≠ s.id → s.cfg.expiry ≤ e.silence →
      ∃ m : SlotMap, orphaned m ∧
        let t := (s.withPeers (s.peers.set q { e with live := false, silence := 0 })).withMap m
        (e.live = true → exec (.peerExpiry q) s = .next (
          if s.member.station = .member ∧ s.cfg.quorum ≤ s.liveCount ∧ t.liveCount < s.cfg.quorum then
            t.quorumLoss
          else t)) ∧
        (e.live = false → exec (.absentPeerOrphaned q) s = .next t)) ∧
    (∀ k : SlotIndex, exec (.orphanCountdownEnd k q) s = .next (s.withMap (s.map.set k
      ((s.map.get k).filter fun r =>
        !(r.station == q && r.orphan.any fun o => o.marksLeft == 0)))))

/-- R54 and R76: the live count is the number of LIVE peers whose role is MEMBER, and one more at a MEMBER station;
it is quorate as a MEMBER with at least Q. R77, R18 and R125: at a quorum loss every holding and the own live
records go, one RELEASE names the slots, LOADOUT turns off, a waiting CLAIM is withdrawn, and YIELDED and SHORT are
queued as they are due. R72: entry to FAULTED clears every collection, stops the Cycle Timer with its cycle number
kept, turns the output off and queues STATE; the demands stay with the head's served flag clear. -/
def Obligations.QuorumLossAndFaultDropEverything : Prop :=
  (∀ e : PeerEntry, e.counts = true ↔ e.live = true ∧ e.role = .member) ∧
  (∀ s : State,
    s.liveCount = (allStations.filter fun p =>
        (s.peers.get p).live && decide ((s.peers.get p).role = .member)).length +
      (if s.member.station = .member then 1 else 0) ∧
    (s.quorate = true ↔ s.member.station = .member ∧ s.cfg.quorum ≤ s.liveCount)) ∧
  (∀ s : State,
    let n := s.holdings.length
    let yielded := if n = 0 then s else s.note (.yielded n .quorum)
    let short := match s.demands with
      | d :: _ => if d.served then yielded.note (.short d.tag 0 .quorum) else yielded
      | [] => yielded
    ∃ m : SlotMap,
      (∀ k, m.get k = (s.map.get k).filter fun r => !(r.station == s.id && r.orphan.isNone)) ∧
      s.quorumLoss = (((((((s.withMap m).withHoldings []).withOutput ⟨.idle, false⟩).withOutbox
        { s.outbox with
          claim := none
          release := (s.outbox.queueRelease (slotSetOf (s.holdings.map Holding.slot))).release }).withPlanner
        { s.planner with
          claimOutstanding := s.planner.claimOutstanding && s.outbox.claim.isNone
          pickOrder := if s.outbox.claim.isSome then [] else s.planner.pickOrder }).withNotes
        short.notes).withDemands
        (match s.demands with
          | [] => []
          | d :: ds => { d with served := false } :: ds))) ∧
  (∀ (why : Cause) (s : State),
      s.enterFaulted why = State.note (.state .faulted why 0)
        { s with
          map := SlotMap.cleared
          peers := PeerTable.cleared
          holdings := []
          outbox := Outbox.empty
          planner := ⟨false, [], false, 0, 0⟩
          output := ⟨.idle, false⟩
          demands := clearServed s.demands
          sag := { s.sag with derateRemaining := 0, windowOpen := false }
          line := ⟨.idle, 0, true, false, .silent, none, 0, 0, 0⟩
          timer := ⟨.unaligned, s.timer.cycle, 0, false⟩
          member := { s.member with station := .faulted, exitCause := why } })

/-- R66, R65, R112, R102 and R92: STANDING_LAPSE, JOINING_COMPLETION, WINDOW_END, YIELD_HOLD_END and
DEMAND_COMPLETED act where their condition stands. That rows which come about inside another event act on their
own is the model's reading (assumption 6). -/
def Obligations.ConditionsOfAMarkActAsCommands : Prop :=
  ∀ s : State, s.rstn = false →
    (s.member.station = .member → s.cfg.expiry ≤ s.member.standing + 1 →
      exec .standingLapse s = .next (s.enterLapsed .lapsedSend)) ∧
    (s.member.station = .joining → s.cfg.expiry ≤ s.member.joiningCount → s.member.ownPresence = true →
      let t := s.withMember { s.member with station := .member, standing := 0 }
      exec .joiningCompletion s = .next (
        match s.timer.phase with
        | .inGap _ a => ((t.withTimer { s.timer with phase := .inGap 0 a, founding := 0 }).withOutbox
            { s.outbox with mark := some (s.outbox.mark.getD a) }).note
              (.state .member .none (s.liveCount + 1))
        | _ => (t.withTimer { s.timer with founding := 0 }).note (.state .member .none (s.liveCount + 1)))) ∧
    (s.onLine = true → s.sag.windowOpen = true → s.sag.derateRemaining = 0 →
      exec .windowEnd s = .next ((s.withSag { s.sag with windowOpen := false }).note (.derate 0 .ended))) ∧
    (s.onLine = true → s.planner.localHold = 0 → s.sag.derateRemaining = 0 →
      exec .yieldHoldEnd s = .next (s.withPlanner { s.planner with yieldHold := false })) ∧
    (∀ d ds, s.demands = d :: ds → d.span ≠ 0 → d.remaining = 0 →
      exec .demandCompleted s = .next (((s.withDemands ds).note (.done d.tag 0 .completed)).headChange))

/-! ### The other notices -/

/-- R11, R12, R13 and R146: a CONTEST removes its target's records from the named slots and withdraws a waiting
CONTEST that it covers; against this station it removes the Holding List entries with them and reports. The phase
under carry where both entries go is the model's choice (assumption 30). -/
def Obligations.ContestRemovesTheTarget : Prop :=
  ∀ (s u : State) (p target : StationId) (x : SlotSet),
    s.Completes p (.contest target x) u → s.onLine = true →
    let kept := u.holdings.filter fun h => !slotIn x h.slot
    let gone := (u.holdings.filter fun h => slotIn x h.slot).length
    let active := (kept.filter fun h => decide (h.state = .active)).length
    let yielded := if gone = 0 then u else u.note (.yielded gone .contest)
    ∃ (m : SlotMap) (out : LoadOutput),
      (∀ k, m.get k = if slotIn x k then (u.map.get k).filter (fun r => r.station != target)
        else u.map.get k) ∧
      let t := (u.withMap m).withOutbox { u.outbox with
        contest := u.outbox.contest.filter fun c => !(c.1 == target && c.2 &&& ~~~x == 0) }
      (target ≠ u.id → exec (.contestComplete p target x) s = .next t) ∧
      (target = u.id →
        (u.output.phase ≠ .on → out = u.output) ∧
        (u.OutputLaw → u.output.phase = .on → ∀ j e, u.timer.phase = .inSlot j e →
          out = if slotIn x j then ⟨.idle, false⟩
            else if u.output.carry = true ∧ (nextSlot j).any (slotIn x) = true then ⟨.tail, false⟩
            else u.output) ∧
        exec (.contestComplete p target x) s = .next (
          let w := (t.withHoldings kept).withOutput out
          match u.demands with
          | d :: ds =>
            if gone ≠ 0 ∧ d.served = true ∧ active < d.floor then
              (w.withNotes (yielded.note (.short d.tag active .contest)).notes).withDemands
                ({ d with served := false } :: ds)
            else w.withNotes yielded.notes
          | [] => w.withNotes yielded.notes))

/-- R9 and R10: a RELEASE removes its sender's live records from the named slots; the own one removes the Holding
List entries with them, whatever their state. The phase under carry where both entries go is the model's choice
(assumption 30). -/
def Obligations.ReleaseRemovesTheSender : Prop :=
  ∀ (s u : State) (p : StationId) (x : SlotSet),
    s.Completes p (.release x) u → s.onLine = true →
    ∃ (m : SlotMap) (out : LoadOutput),
      (∀ k, m.get k = if slotIn x k then
          (u.map.get k).filter (fun r => !(r.station == p && r.orphan.isNone))
        else u.map.get k) ∧
      (u.output.phase ≠ .on → out = u.output) ∧
      (u.OutputLaw → u.output.phase = .on → ∀ j e, u.timer.phase = .inSlot j e →
        out = if slotIn x j then ⟨.idle, false⟩
          else if u.output.carry = true ∧ (nextSlot j).any (slotIn x) = true then ⟨.tail, false⟩
          else u.output) ∧
      exec (.releaseComplete p x) s = .next (
        if p = s.id then
          (((u.withMap m).withHoldings (u.holdings.filter fun h => !slotIn x h.slot)).withOutput out)
        else u.withMap m)

/-- R14, R53 and R74: a LEAVE removes every record of its sender and makes its entry ABSENT; the own LEAVE ends
LEAVING: the map, the Peer Table, the Outbox, the Cycle Timer, the line's counts and derate remaining are cleared, and
the rest of the station is kept. -/
def Obligations.LeaveRemovesTheSender : Prop :=
  ∀ (s u : State) (p : StationId), s.Completes p .leave u →
    (s.onLine = true → p ≠ s.id →
      ∃ m : SlotMap, (∀ k, m.get k = (u.map.get k).filter fun r => r.station != p) ∧
        let e := u.peers.get p
        let t := (u.withMap m).withPeers
          (u.peers.set p { e with live := false, silence := if e.live then 0 else e.silence })
        exec (.leaveComplete p) s = .next (
          if s.member.station = .member ∧ s.cfg.quorum ≤ u.liveCount ∧ t.liveCount < s.cfg.quorum then
            t.quorumLoss
          else t)) ∧
    (s.member.station = .leaving → p = s.id →
      exec (.leaveComplete p) s = .next (State.note (.state .offline .hostLeave 0)
        { u with
          member := { u.member with station := .offline }
          map := SlotMap.cleared
          peers := PeerTable.cleared
          outbox := Outbox.empty
          line := ⟨.idle, 0, true, false, .silent, none, 0, 0, 0⟩
          timer := ⟨.unaligned, 0, 0, false⟩
          sag := { u.sag with derateRemaining := 0, windowOpen := false } }))

/-- R44 to R48: a PRESENCE from another station brings its entry up to date, reconciles every slot against B, and
raises a CONTEST at a MEMBER for the announced slots that do not fit; a fall of a MEMBER's live count below Q is a
quorum loss in the same event. -/
def Obligations.PresenceReconcilesTheSender : Prop :=
  ∀ (s u : State) (p : StationId) (f : PresenceFields),
    s.Hears p (.presence f) → u = s.afterHeard → s.onLine = true →
    let back := !(s.peers.get p).live
    ∃ (m : SlotMap) (x : SlotSet),
      (∀ k, m.get k = reconciled s.cfg.budget p f.units back (slotIn f.holdings k) (s.map.get k)) ∧
      (∀ k, slotIn x k = mustContest s.cfg.budget p f.units back (slotIn f.holdings k) (s.map.get k)) ∧
      let queued : Option (StationId × SlotSet) := match u.outbox.contest with
        | none => some (p, x)
        | some (q, y) => if q = p then some (p, y ||| x) else some (q, y)
      let t := ((u.withMap m).withPeers (u.peers.set p ⟨true, f.role, f.units, f.priority, 0⟩)).withOutbox
        (if s.member.station = .member ∧ x ≠ 0 then { u.outbox with contest := queued } else u.outbox)
      exec (.presenceComplete p f) s = .next (
        if s.member.station = .member ∧ s.cfg.quorum ≤ s.liveCount ∧ t.liveCount < s.cfg.quorum then
          t.quorumLoss
        else t)

/-- R29, R43, R64, R65, R66 and R87: the own PRESENCE sets the announced priority; at a MEMBER it clears the
standing counter and a RELEASE names every announced slot that the map no longer lists for the station; at a JOINING
station it sets the own-presence flag and makes it MEMBER where the joining count has reached E, with STATE (MEMBER,
NONE), the founding timer stopped, and in the gap a MARK queued and the gap timer restarted (R29). That it sets the
announced priority in LEAVING too is the model's reading (assumption 16). -/
def Obligations.OwnPresenceRenewsStanding : Prop :=
  ∀ (s u : State) (f : PresenceFields), s.Sends (.presence f) → u = s.afterSent →
    let v := u.withPlanner { u.planner with announcedPriority := f.priority }
    (s.member.station = .member → ∃ stale : SlotSet,
      (∀ k, slotIn stale k = (slotIn f.holdings k && !listsLive (s.map.get k) s.id)) ∧
      exec (.presenceComplete s.id f) s = .next ((v.withMember { s.member with standing := 0 }).withOutbox
        (if stale = 0 then u.outbox
          else { u.outbox with release := some (u.outbox.release.getD 0 ||| stale) }))) ∧
    (s.member.station = .joining → s.member.joiningCount < s.cfg.expiry →
      exec (.presenceComplete s.id f) s = .next (v.withMember { s.member with ownPresence := true })) ∧
    (s.member.station = .joining → s.cfg.expiry ≤ s.member.joiningCount →
      let w := v.withMember { s.member with station := .member, ownPresence := true, standing := 0 }
      exec (.presenceComplete s.id f) s = .next (
        match s.timer.phase with
        | .inGap _ a => ((w.withTimer { s.timer with phase := .inGap 0 a, founding := 0 }).withOutbox
            { u.outbox with mark := some (u.outbox.mark.getD a) }).note
              (.state .member .none (s.liveCount + 1))
        | _ => (w.withTimer { s.timer with founding := 0 }).note (.state .member .none (s.liveCount + 1)))) ∧
    (s.member.station = .leaving → exec (.presenceComplete s.id f) s = .next v)

/-- R7, R49, R5 and R6: a CLAIM from another station sets a LIVE peer's priority, and at a MEMBER station each named
slot is admitted, skipped or refused against Beff, which is Bd while derate remaining is above 0 and B otherwise. -/
def Obligations.ClaimIsAdmittedSlotBySlot : Prop :=
  ∀ (s u : State) (p : StationId) (c : ClaimFields),
    s.Hears p (.claim c) → u = s.afterHeard → s.onLine = true →
    let beff := if 0 < s.sag.derateRemaining then s.cfg.deratedBudget else s.cfg.budget
    ∃ (m : SlotMap) (t : PeerTable),
      (∀ k, m.get k = if s.member.station = .member ∧ slotIn c.slots k = true then
          admitted beff p c.units (s.map.get k)
        else s.map.get k) ∧
      (∀ q, t.get q = if q = p ∧ (s.peers.get p).live = true then
          { s.peers.get q with priority := c.priority }
        else s.peers.get q) ∧
      exec (.claimComplete p c) s = .next ((u.withMap m).withPeers t)

/-- R8 and R100: the own CLAIM at a MEMBER station is admitted by the same rule; a quorate station takes the granted
set as PENDING within its head's want, or as RELEASING under yield hold, and a station that is not quorate gives
it back at once. -/
def Obligations.OwnClaimTakesItsGrant : Prop :=
  ∀ (s u : State) (c : ClaimFields), s.Sends (.claim c) → u = s.afterSent → s.member.station = .member →
    let beff := if 0 < s.sag.derateRemaining then s.cfg.deratedBudget else s.cfg.budget
    let giveBack (x : SlotSet) : Outbox :=
      if x = 0 then u.outbox else { u.outbox with release := some (u.outbox.release.getD 0 ||| x) }
    ∃ (m : SlotMap) (granted : List SlotIndex),
      granted = allSlots.filter (fun k => slotIn c.slots k &&
        decide ((∀ r ∈ s.map.get k, r.station ≠ s.id) ∧
          ((s.map.get k).map HolderRecord.units).sum + c.units ≤ beff)) ∧
      (∀ k, m.get k = if k ∈ granted then s.map.get k ++ [⟨s.id, c.units, none⟩] else s.map.get k) ∧
      let v := u.withPlanner { u.planner with
        announcedPriority := c.priority, claimOutstanding := false, pickOrder := [] }
      (s.quorate = false → ∃ m' : SlotMap,
        (∀ k, m'.get k = if slotIn (slotSetOf granted) k then
            (m.get k).filter (fun r => !(r.station == s.id && r.orphan.isNone))
          else m.get k) ∧
        exec (.claimComplete s.id c) s = .next ((v.withMap m').withOutbox (giveBack (slotSetOf granted)))) ∧
      (s.quorate = true → s.planner.yieldHold = true →
        exec (.claimComplete s.id c) s = .next (((v.withMap m).withHoldings
          (s.holdings ++ granted.map fun k => ⟨k, .releasing⟩)).withOutbox (giveBack (slotSetOf granted)))) ∧
      (s.quorate = true → s.planner.yieldHold = false → s.HoldingLaw → s.HeldAmountLaw → s.OutputLaw →
        let held := s.holdings ++ granted.map fun k => ⟨k, .pending⟩
        let surplus := ((held.filter fun h => decide (h.state ≠ .releasing)).map Holding.slot).drop s.headWant
        exec (.claimComplete s.id c) s = .next (((v.withMap m).withHoldings (demote s.headWant held)).withOutbox
          (giveBack (slotSetOf surplus))))

/-- R141, R71, R5, R8, R40, R66, R70, R74 and R136: OFFLINE and FAULTED stations hear nothing. A notice under this
station's ID that it did not send faults a JOINING or MEMBER station and is not applied, a MARK among them, in
whatever order its parts are taken; one that also disagrees or raises the standing counter to E − 1 faults or lapses
it by that order. A LAPSED or LEAVING station applies nothing of a notice it has not sent, whatever ID it bears, but
aligns on a MARK under its own ID as on any other; so a LEAVE under its ID does not end LEAVING. Of its own notices
that complete in LEAVING, only the LEAVE has an effect but for the announced priority of a PRESENCE or CLAIM
(assumption 16). How the station knows its own notice, and that no block takes its part of a duplicate, are read
from R141 (assumptions 7 and 23), and the cycle number that the STATE record of such a MARK carries from R30 and R72
(assumptions 5 and 15). -/
def Obligations.NoticesThatAreNotApplied : Prop :=
  (∀ (s : State) (p : StationId) (n : Notice) (c : Instr), s.rstn = false →
    (n = .sag ∧ c = .sagComplete p) ∨ (∃ t x, n = .contest t x ∧ c = .contestComplete p t x) ∨
    (∃ x, n = .release x ∧ c = .releaseComplete p x) ∨ (n = .leave ∧ c = .leaveComplete p) ∨
    (∃ f, n = .presence f ∧ c = .presenceComplete p f) ∨ (∃ f, n = .claim f ∧ c = .claimComplete p f) →
    (s.listens = false → exec c s = .next s) ∧
    (s.Receives p n → p = s.id → s.onLine = true →
      exec c s = .next (s.afterHeard.enterFaulted .faultDuplicate)) ∧
    (s.Receives p n → s.onLine = false → exec c s = .next s.afterHeard) ∧
    (s.Sends n → p = s.id → s.member.station = .leaving →
      exec c s = .next (
        match n with
        | .leave => s.afterSent.endLeaving
        | .presence f => s.afterSent.withPlanner { s.planner with announcedPriority := f.priority }
        | .claim f => s.afterSent.withPlanner { s.planner with announcedPriority := f.priority }
        | _ => s.afterSent))) ∧
  (∀ (s : State) (p : StationId) (m : MarkFields) (order : List MarkPart), s.listens = false →
    exec (.markComplete p m order) s = .next s) ∧
  ∀ (s : State) (m : MarkFields) (order : List MarkPart), s.Receives s.id (.mark m) →
    let due := s.member.station = .member ∧ s.cfg.expiry ≤ s.member.standing + 2
    let ends (t : State) (now : StationState) (why : Cause) : Prop :=
      t.DroppedOut s.afterHeard.truncate m.cycle now why
    let duplicate (t : State) : Prop := ends t .faulted .faultDuplicate ∧ t.timer.phase = .unaligned
    (s.onLine = true →
      (∃ t : State, exec (.markComplete s.id m order) s = .next t ∧
        (duplicate t ∨
          (¬ Agrees m s.cfg ∧ ends t .faulted .faultParameter ∧ t.timer.phase = .unaligned) ∨
          (due ∧ ends t .lapsed .lapsedSend ∧ t.timer = ⟨.inSlot 0 0, m.cycle, 0, false⟩ ∧
            t.member.lapseWait = 0))) ∧
      ∃ (o : List MarkPart) (t : State), exec (.markComplete s.id m o) s = .next t ∧ duplicate t) ∧
    (s.onLine = false → ∀ p : StationId,
      exec (.markComplete s.id m order) s = exec (.markComplete p m order) s)

/-! ### Slots, the planning point and the gap -/

/-- R23 and R120: a slot before slot 63 runs out and the next begins, at a MEMBER in LEAD or, by carry, in ON; slot
1 brings a planning point (R24). The time missing to L passes first (the model's choice, assumption 3). -/
def Obligations.SlotBoundaryBeginsTheNextSlot : Prop :=
  ∀ (k : SlotIndex) (e : Nat) (s : State), s.rstn = false → s.timer.phase = .inSlot k e →
    ∀ h : k.val + 1 < 64,
      let u := s.pass (s.slotTicks - e)
      exec .slotBoundary s = .next ((u.withTimer
        { u.timer with phase := .inSlot ⟨k.val + 1, h⟩ 0, planningDue := decide (k.val = 0) }).withOutput
          (if s.member.station = .member then
            if s.output.carry then ⟨.on, false⟩ else ⟨.lead, false⟩
          else ⟨.idle, false⟩))

/-- R24, R94, R98 and R159: the planning point, taken once in slot 1, queues a CLAIM for the picks where every
condition of R94 holds, and serves a pending snapshot in JOINING and MEMBER. That it is taken once is kept in a
field of the model's own (assumption 9). -/
def Obligations.PlanningPointPlansAndLatches : Prop :=
  ∀ (e : Nat) (s : State), s.rstn = false → s.timer.phase = .inSlot 1 e → s.timer.planningDue = true →
    ∃ (o : Outbox) (pl : ClaimPlanner) (b : SnapshotBuffer),
      exec .planningPoint s = .next ((((s.withTimer { s.timer with planningDue := false }).withOutbox
        o).withPlanner pl).withSnap b) ∧
      (∀ d ds, s.demands = d :: ds →
        s.member.station = .member → s.cfg.quorum ≤ s.liveCount → s.planner.claimOutstanding = false →
        s.planner.yieldHold = false → s.picks d ≠ [] →
        o = { s.outbox with claim := some (slotSetOf (s.picks d)) } ∧
        pl = { s.planner with claimOutstanding := true, pickOrder := s.picks d }) ∧
      ((s.demands = [] ∨ s.quorate = false ∨ s.planner.claimOutstanding = true ∨
          s.planner.yieldHold = true ∨ s.demands.head?.all (fun d => (s.picks d).isEmpty) = true) →
        o = s.outbox ∧ pl = s.planner) ∧
      (s.snap.pending = true → s.onLine = true →
        b.cycle = s.timer.cycle ∧ b.valid = true ∧ b.pending = false ∧
        ∀ k, b.slots.get k =
          ⟨((s.map.get k).map HolderRecord.units).sum, (s.map.get k).length,
            (((s.map.get k).filter fun r => r.orphan.isSome).map HolderRecord.units).sum,
            (s.holdings.find? fun h => h.slot == k).map Holding.state⟩) ∧
      (s.snap.pending = false ∨ s.onLine = false → b = s.snap)

/-- R95, R96 and R97: the picks are the lesser of want and the number of candidates. PACK takes the lowest candidate
slots. Under SPREAD each pick is, among the candidates not yet picked, the one farthest from its nearest reference
slot, or with no reference slots the least loaded one; the lowest index among equals. The distance between slots a
and b is the lesser of |a − b| and 64 − |a − b|. -/
def Obligations.PicksFollowThePlacement : Prop :=
  ∀ (d : Demand) (s : State),
    let held := (s.holdings.filter fun h => decide (h.state ≠ .releasing)).map Holding.slot
    let want := d.want - held.length
    let beff := if 0 < s.sag.derateRemaining then s.cfg.deratedBudget else s.cfg.budget
    let isCandidate (k : SlotIndex) : Prop := (∀ r ∈ s.map.get k, r.station ≠ s.id) ∧
      ((s.map.get k).map HolderRecord.units).sum + s.cfg.load ≤ beff
    let distance (a b : SlotIndex) : Nat :=
      min ((a.val - b.val) + (b.val - a.val)) (64 - ((a.val - b.val) + (b.val - a.val)))
    (∀ (refs : List SlotIndex) (k : SlotIndex), refs ≠ [] →
      (∃ r ∈ refs, nearest refs k = distance k r) ∧ ∀ r ∈ refs, nearest refs k ≤ distance k r) ∧
    (∀ k, k ∈ s.candidates ↔ isCandidate k) ∧
    (s.picks d).length = min want s.candidates.length ∧ (s.picks d).Nodup ∧
    (∀ k ∈ s.picks d, isCandidate k) ∧
    (d.placement = .pack →
      (s.picks d).Pairwise (· < ·) ∧ ∀ k ∈ s.picks d, ∀ j, isCandidate j → j ∉ s.picks d → k < j) ∧
    (d.placement = .spread →
      ∀ before k after, s.picks d = before ++ k :: after →
        let refs := before ++ held
        ∀ j, isCandidate j → j ∉ before →
          (refs = [] →
            ((s.map.get k).map HolderRecord.units).sum < ((s.map.get j).map HolderRecord.units).sum ∨
            (((s.map.get k).map HolderRecord.units).sum = ((s.map.get j).map HolderRecord.units).sum ∧
              k ≤ j)) ∧
          (refs ≠ [] → nearest refs j < nearest refs k ∨ (nearest refs j = nearest refs k ∧ k ≤ j)))

/-- R25, R92 and R126: slot 63 runs out into the gap, with the awaited value one above the cycle number, the output
off and a MEMBER's MARK queued; and the end of the cycle serves a counted head whose floor is met, which may complete
it. The time missing to L passes first (the model's choice, assumption 3). -/
def Obligations.GapEndsTheCycle : Prop :=
  (∀ (e : Nat) (s : State), s.rstn = false → s.timer.phase = .inSlot 63 e →
    let u := s.pass (s.slotTicks - e)
    let v := u.withTimer { u.timer with phase := .inGap 0 (s.timer.cycle + 1), planningDue := false }
    let w := v.cycleEnd.withOutput ⟨.idle, false⟩
    exec .markGapBegin s = .next (
      if s.member.station = .member then
        w.withOutbox { w.outbox with mark := some (s.outbox.mark.getD (s.timer.cycle + 1)) }
      else w)) ∧
  (∀ s : State, s.cycleEnd =
    match s.demands with
    | [] => s
    | d :: ds =>
      if s.member.station = .member ∧ d.span ≠ 0 ∧
          d.floor ≤ (s.holdings.filter fun h => decide (h.state = .active)).length then
        if d.remaining ≤ 1 then ((s.withDemands ds).note (.done d.tag 0 .completed)).headChange
        else s.withDemands ({ d with remaining := d.remaining - 1 } :: ds)
      else s)

/-- R28, R67, R68, R34 and R69: the mark timeout lapses a MEMBER, the founding timer makes a JOINING station the
founder of a line, and the end of the lapse wait returns a LAPSED station to JOINING. The time missing to each limit
passes first (the model's choice, assumption 3). A frame that completes at the moment of the lapse is still taken,
so that a MARK aligns the LAPSED station (R28, assumption 31). A frame that completes at the moment the lapse wait
ends, with the entry to JOINING taken first, is not (assumption 33). -/
def Obligations.TimersChangeTheStationState : Prop :=
  ∀ s : State, s.rstn = false →
    (∀ e a, s.timer.phase = .inGap e a → s.member.station = .member →
      let u := s.pass (s.cycleTicks - e)
      exec .markTimeout s = .next (State.note (.state .lapsed .lapsedLine 0)
        { u with
          map := SlotMap.cleared
          peers := PeerTable.cleared
          holdings := []
          outbox := Outbox.empty
          planner := ⟨false, [], false, 0, 0⟩
          output := ⟨.idle, false⟩
          demands := clearServed s.demands
          sag := { u.sag with derateRemaining := 0, windowOpen := false }
          line := { (⟨.idle, 0, true, false, .silent, none, 0, 0, 0⟩ : LineController) with
            awaitingIdle := u.line.awaitingIdle || u.line.rx != .idle
            closing := decide (u.line.rx = .frame ∧ (u.line.tx = .silent ∨ u.line.tx = .sending)) }
          timer := { u.timer with founding := 0 }
          member := { u.member with station := .lapsed, lapseWait := 0, exitCause := .lapsedLine } })) ∧
    (∀ e a, s.timer.phase = .inGap e a → s.member.station ≠ .member → exec .markTimeout s = .next s) ∧
    (s.member.station = .joining →
      let u := s.pass (s.foundingTicks - s.timer.founding)
      exec .founding s = .next (State.note (.state .member .none (s.liveCount + 1))
        { u with
          member := { u.member with station := .member, standing := 0 }
          timer := ⟨.inGap 0 0, 0, 0, false⟩
          outbox := { s.outbox with mark := some (s.outbox.mark.getD 0), presence := true } })) ∧
    (s.member.station = .lapsed →
      let u := s.pass (s.lapseTicks - s.member.lapseWait)
      exec .lapseWaitEnd s = .next (State.note (.state .joining .none
          (allStations.filter fun p => (s.peers.get p).counts).length)
        { u with
          member := { u.member with station := .joining, joiningCount := 0, ownPresence := false }
          timer := { u.timer with founding := 0 }
          line := ⟨.idle, 0, true, false, .silent, none, 0, 0, 0⟩
          outbox := { s.outbox with presence := true } }))

/-- R121 and R122: at the ON point of a slot in LEAD the output goes on exactly where the station is a quorate MEMBER
and the slot's entry is ACTIVE; at the tail point of a slot in ON it is carried into the next slot of the cycle on
the same conditions for that slot, and goes off otherwise. The missing time passes first (the model's choice,
assumption 3). -/
def Obligations.OnAndTailPointsDecideTheOutput : Prop :=
  ∀ (k : SlotIndex) (e : Nat) (s : State), s.rstn = false → s.timer.phase = .inSlot k e →
    let active (j : SlotIndex) : Prop := ∃ h ∈ s.holdings, h.slot = j ∧ h.state = .active
    let quorate : Prop := s.member.station = .member ∧ s.cfg.quorum ≤ s.liveCount
    (s.output.phase = .lead →
      let u := s.pass (s.guardTicks - e)
      (quorate ∧ active k → exec .onPoint s = .next (u.withOutput { s.output with phase := .on })) ∧
      (¬ (quorate ∧ active k) → exec .onPoint s = .next (u.withOutput ⟨.idle, false⟩))) ∧
    (s.output.phase ≠ .lead → exec .onPoint s = .next s) ∧
    (s.output.phase = .on → s.output.carry = false →
      let u := s.pass (s.slotTicks - s.guardTicks - e)
      let carried : Prop := quorate ∧ ∃ j : SlotIndex, j.val = k.val + 1 ∧ active j
      (carried → exec .tailPoint s = .next (u.withOutput ⟨.on, true⟩)) ∧
      (¬ carried → exec .tailPoint s = .next (u.withOutput ⟨.tail, false⟩))) ∧
    (s.output.phase ≠ .on → exec .tailPoint s = .next s)

/-! ### The share line -/

/-- R131, R144, R26, R42, R98, R76 and R142: after twelve bit times of idle a station that may drive begins an
attempt of the notice in flight, or takes into flight the waiting notice with the lowest kind code, its fields taken
then and its counts at 0; a CLAIM is passed over while the station is not quorate. Where the line has stood idle
that long already, it begins at once; while a frame or a BREAK is on the line, not at all. A station with nothing to
send begins nothing. The missing idle time passes first (the model's choice, assumption 3). -/
def Obligations.AttemptTakesTheLowestKind : Prop :=
  ∀ s : State, s.rstn = false →
    (s.line.rx ≠ .idle → exec .attemptStart s = .next s) ∧
    (s.drives = true → s.line.rx = .idle → s.line.tx = .silent → s.line.broken = none →
      let u := s.pass (Config.idleTicks - s.line.idleTime)
      let begun (o : Outbox) (a c : Nat) : State := (u.withOutbox o).withLine { u.line with
        rx := .frame, tx := .sending, idleTime := 0, awaitingIdle := false, attempts := a, clashes := c }
      (∀ n, s.outbox.inFlight = some n →
        exec .attemptStart s = .next (begun s.outbox s.line.attempts s.line.clashes)) ∧
      (s.outbox.inFlight = none →
        (∀ n rest, s.Offers n rest → exec .attemptStart s = .next (begun { rest with inFlight := some n } 0 0)) ∧
        ((∀ n rest, ¬ s.Offers n rest) → exec .attemptStart s = .next s)))

/-- R130 and R131: another station's start pulse. A station still waiting for its first idle treats it as a busy
line; one with nothing to send, or whose own idle count would have ended more than 5 µs later, receives the frame;
one with a notice in flight, or a waiting one that R144 takes, whose count would have ended within 5 µs joins the
pulse. While a frame or a BREAK is on the line no start pulse comes. The missing idle time passes first, and the
wait for the first idle is a field of the model's own (the model's choices, assumptions 3, 9 and 11). -/
def Obligations.StartPulseIsReceivedOrJoined : Prop :=
  ∀ (early : Nat) (s : State), s.rstn = false →
    (s.line.rx ≠ .idle → exec (.frameReceptionBegin early) s = .next s) ∧
    (s.listens = true → s.line.rx = .idle → s.line.tx = .silent → s.line.broken = none →
      early ≤ Config.idleTicks → s.line.idleTime ≤ Config.idleTicks - early →
      let u := s.pass (Config.idleTicks - early - s.line.idleTime)
      let received := exec (.frameReceptionBegin early) s =
        .next (u.withLine { u.line with rx := .frame, idleTime := 0 })
      let joined (o : Outbox) (a c : Nat) := exec (.frameReceptionBegin early) s =
        .next ((u.withOutbox o).withLine { u.line with
          rx := .frame, tx := .sending, idleTime := 0, awaitingIdle := false, attempts := a, clashes := c })
      (u.line.awaitingIdle = true →
        exec (.frameReceptionBegin early) s = .next (u.withLine { u.line with idleTime := 0 })) ∧
      (u.line.awaitingIdle = false →
        (s.drives = false ∨ Config.joinTicks < early → received) ∧
        (s.outbox.inFlight = none → (∀ n rest, ¬ s.Offers n rest) → received) ∧
        (s.drives = true → early ≤ Config.joinTicks →
          (s.outbox.inFlight.isSome = true → joined s.outbox s.line.attempts s.line.clashes) ∧
          (s.outbox.inFlight = none → ∀ n rest, s.Offers n rest →
            joined { rest with inFlight := some n } 0 0))))

/-- R130, R132, R134, R135, R136, R137, R139 and R140: arbitration lost, a receive error, a readback mismatch, the
end of a BREAK and a BREAK seen on the line; and what R134 makes a receive error: an edge less than half or more
than one and a half bit times after the one before, a dominant period over one and up to two bit times, a truncated
frame, an edge in the check gap, and bits that `FramesCarryTheirNotice` judges to be an error. Idle time counts from
the release of a BREAK, the own one or another station's. Where idle time counts from after a frame, that BREAK_END
is the release of another station's BREAK too, and what a broken attempt waits for are the model's readings and
choices (assumptions 8, 10 and 21). -/
def Obligations.LineEventsMoveTheController : Prop :=
  (∀ e : ReceiveError, isReceiveError e = true ↔
    match e with
    | .edge t => t < 80 ∨ 240 < t
    | .dominant t => 160 < t ∧ t ≤ 320
    | .truncated bits => judge bits = .incomplete
    | .gapEdge => True
    | .frame bits => judge bits = .badLength ∨ judge bits = .badKey ∨ judge bits = .badPayload ∨
        judge bits = .badCheck) ∧
  ∀ s : State, s.rstn = false →
    (s.line.tx = .sending →
      exec .arbitrationLost s = .next (s.withLine { s.line with tx := .silent }) ∧
      (∀ sent read back : Bool, sent ≠ read →
        exec (.readbackMismatch sent read back) s = .next (s.withLine { s.line with
          tx := .breaking false, broken := some (sent && back) }))) ∧
    (∀ err, s.line.rx = .frame → s.line.tx = .silent →
      (isReceiveError err = true → s.drives = true →
        exec (.receiveError err) s = .next (s.withLine { s.line with tx := .breaking true })) ∧
      (isReceiveError err = true → s.member.station = .lapsed →
        exec (.receiveError err) s = .next (s.withLine
          { s.line with rx := .idle, idleTime := 0, awaitingIdle := true, closing := false })) ∧
      (isReceiveError err = false → exec (.receiveError err) s = .next s)) ∧
    (s.line.tx = .breaking false →
      exec .breakEnd s = .next (s.withLine { s.line with rx := .idle, idleTime := 0, tx := .silent })) ∧
    (s.line.tx = .breaking true →
      let n := min 16 (s.line.receiveFaults + 1)
      let t := s.withLine { s.line with rx := .idle, idleTime := 0, tx := .silent, receiveFaults := n }
      exec .breakEnd s = .next (
        if s.onLine = true ∧ n = 16 then t.enterFaulted .faultReceive else t)) ∧
    ((∀ b, s.line.tx ≠ .breaking b) →
      exec .breakEnd s = .next (if s.listens = true ∧ s.line.rx = .brk then
        s.withLine { s.line with rx := .idle, idleTime := 0 } else s)) ∧
    (s.listens = true →
      exec .lineBreakSeen s = .next (s.withLine (
        if s.line.tx = .sending then
          { s.line with rx := .brk, closing := false, tx := .silent, broken := some false }
        else { s.line with rx := .brk, closing := false })))

/-- R135, R137, R138, R139 and R140: an attempt that ends in BREAK is counted, and in a row of clashes the clash
count rises, to 2 at most; a second clash faults a JOINING or MEMBER station, and the fourth attempt fails the
notice with the rule of its kind (Table 8-2). A sender that has not seen the BREAK sees it here. Sixteen broken
frames fault a JOINING or MEMBER station. While the own BREAK runs its three bit times no count has an effect: that
the attempt ends with it is the model's reading (assumption 21). That an attempt ended in BREAK waits to be counted
is a field of the model's own (assumption 9), and that TRANSMIT_FAILURE, CLASH_FAULT and RECEIVE_FAULT act as rows
of their own is the model's reading (assumption 6). -/
def Obligations.FailuresFollowTheirCounts : Prop :=
  ∀ s : State, s.rstn = false →
    let flown := (s.withOutbox { s.outbox with inFlight := none }).withLine
      { s.line with attempts := 0, clashes := 0 }
    let counted (clash : Bool) : State := s.withLine { s.line with
      broken := none
      attempts := min 4 (s.line.attempts + 1)
      clashes := if clash then min 2 (s.line.clashes + 1) else 0 }
    (∀ b, s.line.tx = .breaking b →
      exec .attemptBroken s = .next s ∧ exec .transmitFailure s = .next s ∧ exec .clashFault s = .next s ∧
      exec .receiveFault s = .next s) ∧
    ((∀ b, s.line.tx ≠ .breaking b) →
      (∀ n clash, s.outbox.inFlight = some n → s.line.broken = some clash →
        (clash = true → 1 ≤ s.line.clashes → s.onLine = true →
          exec .attemptBroken s = .next ((counted clash).enterFaulted .faultDuplicate)) ∧
        (clash = false ∨ s.line.clashes = 0 ∨ s.onLine = false →
          (s.line.attempts < 3 → exec .attemptBroken s = .next (counted clash)) ∧
          (3 ≤ s.line.attempts → exec .attemptBroken s = exec .transmitFailure (counted clash)))) ∧
      (∀ n, s.outbox.inFlight = some n → s.line.broken = none → s.line.tx = .sending →
        exec .attemptBroken s = exec .attemptBroken (s.withLine
          { s.line with rx := .brk, tx := .silent, broken := some false })) ∧
      (4 ≤ s.line.attempts →
        (∀ m, s.outbox.inFlight = some (.mark m) →
          exec .transmitFailure s = .next (
            match s.timer.phase with
            | .inGap _ a => if s.member.station = .member then
                flown.withOutbox { flown.outbox with mark := some (s.outbox.mark.getD a) } else flown
            | _ => flown)) ∧
        (s.outbox.inFlight = some .sag →
          exec .transmitFailure s = .next (if s.onLine = true ∧ s.sag.condition = true then
            flown.withOutbox { flown.outbox with sag := true } else flown)) ∧
        (∀ t x, s.outbox.inFlight = some (.contest t x) → exec .transmitFailure s = .next flown) ∧
        (∀ x, s.outbox.inFlight = some (.release x) → x ≠ 0 →
          exec .transmitFailure s = .next (if s.onLine = true then
            flown.withOutbox { flown.outbox with release := some (s.outbox.release.getD 0 ||| x) } else flown)) ∧
        (s.outbox.inFlight = some .leave →
          exec .transmitFailure s = .next (if s.member.station = .leaving then flown.endLeaving else flown)) ∧
        (∀ f, s.outbox.inFlight = some (.presence f) → exec .transmitFailure s = .next flown) ∧
        (∀ c, s.outbox.inFlight = some (.claim c) →
          exec .transmitFailure s = .next (if s.onLine = true then
            flown.withPlanner { s.planner with claimOutstanding := false, pickOrder := [] } else flown))) ∧
      (s.onLine = true → 2 ≤ s.line.clashes → exec .clashFault s = .next (s.enterFaulted .faultDuplicate)) ∧
      (s.onLine = true → 16 ≤ s.line.receiveFaults →
        exec .receiveFault s = .next (s.enterFaulted .faultReceive)))

/-- Sections 8.2, 10.1 and 10.2, R130, R133, R134, R164 and R165: a frame is the kind code and the sender's ID, the
payload's length and its bytes (Tables 10-1 to 10-5), most significant bit first, and then the check: the remainder of
R133, whose polynomial, added to those of the bits and of the register's sixteen ones in their places, leaves a
multiple of x^16 + x^12 + x^5 + 1. A slot set names its slots in eight bytes, bit 7 of byte j for slot 8j. The bits of
every notice that no listener finds malformed are judged to be that notice, from that sender, and no other bits are.
An error is known as soon as the bits that show it are read: the length at the twelfth bit, the payload at its last
bit, the check at the last check bit; and a notice is malformed by the conditions of Table 10-6, its fields fitting
their bytes. -/
def Obligations.FramesCarryTheirNotice : Prop :=
  let msbFirst (n v : Nat) : List Bool := (List.range n).map fun i => v.testBit (n - 1 - i)
  let number (bits : List Bool) : Nat := Nat.ofDigits 2 (bits.reverse.map Bool.toNat)
  let lengths : List Nat := [10, 0, 9, 8, 0, 10, 10]
  let slots (x : SlotSet) : List Nat := (List.range 8).map fun j =>
    ((List.range 8).map fun i => if x.getLsbD (8 * j + i) then 2 ^ (7 - i) else 0).sum
  let layout (n : Notice) : Nat × List Nat := match n with
    | .mark m => (0, [m.cycle.toNat / 256, m.cycle.toNat % 256, m.slotLength, m.budget, m.deratedBudget, m.period,
        m.expiry, m.quorum, m.derateHold, m.derate])
    | .sag => (1, [])
    | .contest t x => (2, t.val :: slots x)
    | .release x => (3, slots x)
    | .leave => (4, [])
    | .presence f => (5, ((if f.role = .member then 128 else 0) + f.priority.val) :: f.units :: slots f.holdings)
    | .claim c => (6, c.units :: c.priority.val :: slots c.slots)
  let carried (p : StationId) (n : Notice) : List Bool :=
    msbFirst 3 (layout n).1 ++ msbFirst 5 p.val ++ msbFirst 4 (layout n).2.length ++
      (layout n).2.flatMap (msbFirst 8)
  let checkBits (bits : List Bool) : List Bool := (List.range 16).map (check bits).getMsbD
  let poly (bits : List Bool) : Polynomial (ZMod 2) :=
    bits.foldl (fun f b => Polynomial.X * f + if b then 1 else 0) 0
  (∀ (ks : List SlotIndex) (x : SlotSet) (k : SlotIndex),
    slotIn (slotSetOf ks) k = ks.contains k ∧ slotIn x k = x.getLsbD k.val) ∧
  (∀ n : Notice, lengths[(layout n).1]? = some (layout n).2.length) ∧
  (∀ (p : StationId) (n : Notice), bodyBits p n = carried p n ∧
    frameBits p n = carried p n ++ checkBits (carried p n)) ∧
  (∀ bits : List Bool, (Polynomial.X ^ 16 + Polynomial.X ^ 12 + Polynomial.X ^ 5 + 1 : Polynomial (ZMod 2)) ∣
    Polynomial.X ^ 16 * poly bits + Polynomial.X ^ bits.length * poly (List.replicate 16 true) +
      poly (checkBits bits)) ∧
  (∀ (p : StationId) (n : Notice), noticeWellFormed p n = true → judge (frameBits p n) = .whole p n) ∧
  (∀ (p : StationId) (n : Notice), noticeWellFormed p n = true ↔
    match n with
    | .mark m => m.derate ≤ 14 ∧ m.slotLength < 256 ∧ m.budget < 256 ∧ m.deratedBudget < 256 ∧ m.period < 256 ∧
        m.expiry < 256 ∧ m.quorum < 256 ∧ m.derateHold < 256
    | .sag | .leave => True
    | .contest t x => t ≠ p ∧ x ≠ 0
    | .release x => x ≠ 0
    | .presence f => 1 ≤ f.units ∧ f.units < 256 ∧ (f.role = .joining → f.holdings = 0)
    | .claim c => 1 ≤ c.units ∧ c.units < 256 ∧ c.slots ≠ 0) ∧
  ∀ bits : List Bool,
    (bits.length < 12 → judge bits = .incomplete) ∧
    (12 ≤ bits.length →
      let kind := number (bits.take 3)
      let len := number ((bits.drop 8).take 4)
      let body := bits.take (12 + 8 * len)
      (12 ≤ len → judge bits = .badLength) ∧
      (len < 12 → lengths[kind]? ≠ some len → judge bits = .badKey) ∧
      (len < 12 → lengths[kind]? = some len →
        (bits.length < 12 + 8 * len → judge bits = .incomplete) ∧
        (12 + 8 * len ≤ bits.length →
          ((∀ p n, noticeWellFormed p n = true → carried p n ≠ body) → judge bits = .badPayload) ∧
          (∀ p n, noticeWellFormed p n = true → carried p n = body →
            (bits.length < 28 + 8 * len → judge bits = .incomplete) ∧
            (28 + 8 * len ≤ bits.length →
              judge bits = if (bits.drop (12 + 8 * len)).take 16 = checkBits body then .whole p n
                else .badCheck)))))

/-! ### The laws, kept by every step -/

/-- A setup record is held in every state but OFFLINE and always passes Table 9-3, and a station that may not drive
the line holds an empty map, Peer Table and Outbox (R17, R39, R147, R152), given that it holds no holdings (R88). R66,
the law of standing: a MEMBER's standing counter is below E − 1. Outside MEMBER the head's served flag is clear (R68,
R72, R82). -/
def Obligations.MembershipLawsAreKept : Prop :=
  ∀ s t : State, step s = .next t →
    (s.SetupLaw → t.SetupLaw) ∧ (s.HoldingLaw → s.RestLaw → t.RestLaw) ∧
    (s.SetupLaw → s.StandingLaw → t.StandingLaw) ∧ (s.ServedLaw → t.ServedLaw)

/-- R1, the law of the map's budget: no slot's committed units ever exceed B; and R2, the law of holder lists: no
station twice in a slot, and at most 32 records. Every step keeps them, the first given a valid setup and the law
of rest. -/
def Obligations.MapLawsAreKept : Prop :=
  ∀ s t : State, step s = .next t →
    (s.SetupLaw → s.RestLaw → s.BudgetLaw → t.BudgetLaw) ∧ (s.HolderListLaw → t.HolderListLaw)

/-- R3, the law of orphan records: a record has an orphan part only while its station's Peer Table entry is
ABSENT, and a station never holds one under its own ID, whose entry is always ABSENT (R38). Every step keeps it. -/
def Obligations.OrphanLawIsKept : Prop :=
  ∀ s t : State, s.OrphanLaw → step s = .next t → t.OrphanLaw

/-- R88, the law of the Holding List: no slot twice, its slots are exactly those in which the map holds an own
live record, and it is empty outside MEMBER. Every step keeps it. -/
def Obligations.HoldingLawIsKept : Prop :=
  ∀ s t : State, s.HoldingLaw → step s = .next t → t.HoldingLaw

/-- R89, the law of held amount: the PENDING and ACTIVE entries never exceed k of the head, and there are none
with no head or while the station is not quorate. Every step keeps it. -/
def Obligations.HeldAmountLawIsKept : Prop :=
  ∀ s t : State, s.HeldAmountLaw → step s = .next t → t.HeldAmountLaw

/-- R81 and R154: the laws of the Demand Queue and the Notification Queue, with what queueing a record does (R154):
it joins the end of a queue that holds fewer than 16, with the Cycle Timer's cycle number, or is dropped and the
overflow flag set; ATTN, asserted exactly while the queue holds a record (R155); and what queueing a notice does
(R145, Table 8-4): MARK, CONTEST and RELEASE wait, are joined or are dropped, and an empty set queues nothing. -/
def Obligations.QueueLawsAreKept : Prop :=
  (∀ (b : NoteBody) (s : State),
    s.note b = s.withNotes (
      if s.notes.records.length < 16 then
        { s.notes with records := s.notes.records ++ [⟨s.timer.cycle, b⟩] }
      else { s.notes with overflow := true }) ∧
    (s.attn = true ↔ s.notes.records ≠ [])) ∧
  (∀ (code : DoneCode) (ds : List Demand) (s : State), s.noteDone code ds = s.withNotes
    (s.notes.after (ds.map fun d => ⟨s.timer.cycle, .done d.tag d.remaining code⟩))) ∧
  (∀ (o : Outbox) (c : CycleNumber) (p : StationId) (x : SlotSet),
    o.queueMark c = { o with mark := some (o.mark.getD c) } ∧
    o.queueRelease x = (if x = 0 then o else { o with release := some (o.release.getD 0 ||| x) }) ∧
    o.queueContest p x = if x = 0 then o else { o with
      contest := match o.contest with
        | none => some (p, x)
        | some (q, y) => if q = p then some (p, y ||| x) else some (q, y) }) ∧
  ∀ s t : State, step s = .next t → (s.DemandLaw → t.DemandLaw) ∧ (s.NoteLaw → t.NoteLaw)

/-- R121, the law of the output: after every step LOADOUT is at its on level only at a quorate MEMBER in a slot whose
entry is ACTIVE; and R118, the pin: high-impedance without a setup, else at the level of its polarity. -/
def Obligations.OutputLawIsKept : Prop :=
  (∀ s : State, s.loadoutPin =
    match s.setup with
    | none => none
    | some c => some (decide (s.output.phase = .on) == decide (c.polarity = .activeHigh))) ∧
  ∀ s t : State, s.OutputLaw → step s = .next t →
    t.OutputLaw ∧ (t.loadout = .on → t.member.station = .member ∧ t.cfg.quorum ≤ t.liveCount ∧
      ∃ k e, t.timer.phase = .inSlot k e ∧ ∃ h ∈ t.holdings, h.slot = k ∧ h.state = .active)

/-- R142, the law of the line: a station drives only while JOINING, MEMBER or LEAVING; with the ranges of Table
8-3, and a frame kept for the moment of a lapse at a LAPSED station alone (assumption 31). Every step keeps them. -/
def Obligations.LineLawsAreKept : Prop :=
  ∀ s t : State, step s = .next t → (s.DriveLaw → t.DriveLaw) ∧
    (s.LineRanges → t.LineRanges) ∧ (s.ClosingLaw → t.ClosingLaw)

/-- R98, the law of claims: at most one CLAIM, waiting or in flight, with the claim-outstanding flag set while
there is one but for a CLAIM in flight in LEAVING; a waiting CLAIM is a MEMBER's and names the slots of its pick
order. Every step keeps it. -/
def Obligations.ClaimLawIsKept : Prop :=
  ∀ s t : State, s.ClaimLaw → step s = .next t → t.ClaimLaw

/-- Every law at once: from every safe state, a step leads to a safe state. -/
def Obligations.EveryStepIsSafe : Prop :=
  ∀ s t : State, s.Safe → step s = .next t → t.Safe
end

