-- ==== Sys2Proof/Laws/Slots.lean ====
section
/-!
SUPPORT. What a slot set built from a list or from a test names, and what union, intersection and inclusion
of slot sets do slot by slot.
-/

namespace Sys2Proof.Machine

@[simp] theorem mem_allSlots (k : SlotIndex) : k ∈ allSlots := List.mem_finRange k

@[simp] theorem mem_allStations (p : StationId) : p ∈ allStations := List.mem_finRange p

theorem allSlots_nodup : allSlots.Nodup := List.nodup_finRange 64

/-- Two slot sets that name the same slots are equal. -/
theorem SlotSet.ext_slots {x y : SlotSet} (h : ∀ k, slotIn x k = slotIn y k) : x = y := by
  apply BitVec.eq_of_getLsbD_eq
  intro i hi
  exact h ⟨i, hi⟩

@[simp] theorem slotIn_zero (k : SlotIndex) : slotIn 0#64 k = false := by
  unfold slotIn
  exact BitVec.getLsbD_zero

@[simp] theorem slotIn_slotBit (j k : SlotIndex) : slotIn (slotBit j) k = decide (k = j) := by
  unfold slotIn slotBit
  rw [BitVec.getLsbD_ofNat]
  simp only [k.isLt, decide_true, Bool.true_and, Nat.testBit_two_pow]
  by_cases h : j.val = k.val
  · simp [Fin.ext_iff, h]
  · simp [Fin.ext_iff, h, Ne.symm h]

@[simp] theorem slotIn_or (x y : SlotSet) (k : SlotIndex) :
    slotIn (x ||| y) k = (slotIn x k || slotIn y k) := by
  simp [slotIn]

@[simp] theorem slotIn_and (x y : SlotSet) (k : SlotIndex) :
    slotIn (x &&& y) k = (slotIn x k && slotIn y k) := by
  simp [slotIn]

@[simp] theorem slotIn_not (x : SlotSet) (k : SlotIndex) : slotIn (~~~x) k = !slotIn x k := by
  simp [slotIn, k.isLt]

/-- The set of a list names exactly the list's slots. -/
@[simp] theorem slotIn_slotSetOf (l : List SlotIndex) (k : SlotIndex) :
    slotIn (slotSetOf l) k = decide (k ∈ l) := by
  induction l with
  | nil => simp [slotSetOf]
  | cons j js ih => simp [slotSetOf, ih]

/-- The set of a test names exactly the slots that pass it. -/
@[simp] theorem slotIn_slotSetWhere (p : SlotIndex → Bool) (k : SlotIndex) :
    slotIn (slotSetWhere p) k = p k := by
  simp [slotSetWhere, List.mem_filter]

@[simp] theorem mem_slotsOf (x : SlotSet) (k : SlotIndex) : k ∈ slotsOf x ↔ slotIn x k = true := by
  simp [slotsOf, List.mem_filter]

/-- A set is empty exactly when it names no slot. -/
theorem slotSet_eq_zero_iff (x : SlotSet) : x = 0 ↔ ∀ k, slotIn x k = false := by
  constructor
  · rintro rfl k
    simp
  · intro h
    exact SlotSet.ext_slots fun k => (h k).trans (slotIn_zero k).symm

@[simp] theorem slotSetOf_eq_zero_iff (l : List SlotIndex) : slotSetOf l = 0 ↔ l = [] := by
  rw [slotSet_eq_zero_iff]
  constructor
  · intro h
    cases l with
    | nil => rfl
    | cons j js => simpa using h j
  · rintro rfl k
    simp

/-- Inclusion, slot by slot. -/
theorem slotSubset_iff (x y : SlotSet) :
    slotSubset x y = true ↔ ∀ k, slotIn x k = true → slotIn y k = true := by
  simp only [slotSubset, beq_iff_eq, slotSet_eq_zero_iff, slotIn_and, slotIn_not]
  exact forall_congr' fun k => by cases slotIn x k <;> cases slotIn y k <;> simp

/-- The slot after slot `k` is `k + 1`, and slot 63 has none. -/
theorem nextSlot_eq_some_iff (k j : SlotIndex) : nextSlot k = some j ↔ j.val = k.val + 1 := by
  unfold nextSlot
  split
  · simp [Fin.ext_iff, eq_comm]
  · have := j.isLt
    simp
    omega

end Sys2Proof.Machine
end

