-- ==== Sys2Proof/Laws/Frame.lean ====
section
/-!
SUPPORT. What the bits of a frame are: the two readings of bits and bytes, the bytes of a slot set, and the
check register, one bit at a time.
-/

namespace Sys2Proof.Machine

/-! ### Bits and bytes -/

theorem bitsOf_eq_map (n v : Nat) : bitsOf n v = (List.range n).map fun i => v.testBit (n - 1 - i) := by
  induction n with
  | zero => rfl
  | succ n ih =>
    rw [bitsOf, ih, List.range_succ_eq_map, List.map_cons, List.map_map]
    refine congrArg₂ _ rfl (List.map_congr_left fun i _ => ?_)
    simp only [Function.comp, Nat.succ_eq_add_one]
    congr 1
    omega

@[simp] theorem length_bitsOf (n v : Nat) : (bitsOf n v).length = n := by simp [bitsOf_eq_map]

@[simp] theorem valueOf_append (bs : List Bool) (b : Bool) :
    valueOf (bs ++ [b]) = 2 * valueOf bs + b.toNat := by simp [valueOf]

theorem valueOf_eq_ofDigits (bs : List Bool) : valueOf bs = Nat.ofDigits 2 (bs.reverse.map Bool.toNat) := by
  induction bs using List.reverseRecOn with
  | nil => rfl
  | append_singleton bs b ih =>
    rw [valueOf_append, ih]
    simp [Nat.ofDigits_cons]
    omega

theorem valueOf_byte (f : Nat → Bool) : valueOf ((List.range 8).map f) =
    ((List.range 8).map fun i => if f i then 2 ^ (7 - i) else 0).sum := by
  have e : List.range 8 = [0, 1, 2, 3, 4, 5, 6, 7] := by decide
  rw [e]
  simp [valueOf, Bool.toNat]
  cases f 0 <;> cases f 1 <;> cases f 2 <;> cases f 3 <;> cases f 4 <;> cases f 5 <;> cases f 6 <;> cases f 7 <;> rfl

theorem bytesFrom_eq_map (n : Nat) (bs : List Bool) :
    bytesFrom n bs = (List.range n).map fun j => valueOf ((bs.drop (8 * j)).take 8) := by
  induction n generalizing bs with
  | zero => rfl
  | succ n ih =>
    rw [bytesFrom, ih, List.range_succ_eq_map]
    simp only [List.map_cons, List.map_map, List.drop_drop]
    refine congrArg₂ _ rfl (List.map_congr_left fun i _ => ?_)
    simp only [Function.comp, Nat.succ_eq_add_one]
    congr 3
    omega

/-- Bit 7 of byte j of a slot set stands for slot 8j and bit 0 for slot 8j + 7 (Section 10.1). -/
theorem slotSetBytes_eq_map (x : SlotSet) : slotSetBytes x = (List.range 8).map fun j =>
    ((List.range 8).map fun i => if x.getLsbD (8 * j + i) then 2 ^ (7 - i) else 0).sum := by
  have bits : allSlots.map (slotIn x) = (List.range 64).map x.getLsbD := by
    apply List.ext_getElem <;> simp [allSlots, slotIn]
  rw [slotSetBytes, bits, bytesFrom_eq_map]
  refine List.map_congr_left fun j hj => ?_
  rw [List.mem_range] at hj
  rw [← valueOf_byte fun i => x.getLsbD (8 * j + i)]
  congr 1
  apply List.ext_getElem
  · simp; omega
  · simp

/-! ### The check (R133) -/

@[simp] theorem check_nil : check [] = 0xFFFF#16 := rfl

@[simp] theorem check_append (bs : List Bool) (b : Bool) : check (bs ++ [b]) = checkStep (check bs) b := by
  simp [check]

/-- A bit shifts the register, and the bit that leaves it, with the new one, feeds the places 0, 5 and 12. -/
theorem checkStep_getLsbD (r : BitVec 16) (b : Bool) (i : Nat) (h : i < 16) :
    (checkStep r b).getLsbD i =
      ((decide (0 < i) && r.getLsbD (i - 1)) ^^
        (decide (i = 0 ∨ i = 5 ∨ i = 12) && (r.getLsbD 15 ^^ b))) := by
  unfold checkStep
  split <;> rename_i fed
  · simp only [BitVec.getLsbD_xor, BitVec.getLsbD_shiftLeft, fed]
    interval_cases i <;> simp
  · rw [Bool.not_eq_true] at fed
    simp only [BitVec.getLsbD_shiftLeft, fed]
    interval_cases i <;> simp

end Sys2Proof.Machine
end

