-- ==== Sys2Proof/Laws/Holders.lean ====
section
/-!
SUPPORT. What every change of the Slot Map does slot by slot, what it leaves of committed units and of the
stations listed, and the agreement of the map's operations with the terms of the statements.
-/

namespace Sys2Proof.Machine

/-! ### One slot entry -/

@[simp] theorem committed_nil : committed [] = 0 := rfl

@[simp] theorem committed_cons (r : HolderRecord) (e : SlotEntry) :
    committed (r :: e) = r.units + committed e := by
  simp [committed]

@[simp] theorem committed_append (p : StationId) (u : Nat) (e : SlotEntry) :
    committed (append p u e) = committed e + u := by
  simp [committed, append]

/-- Removing records lowers committed units, or leaves them (R1). -/
theorem committed_filter_le (f : HolderRecord → Bool) (e : SlotEntry) :
    committed (e.filter f) ≤ committed e := by
  induction e with
  | nil => simp
  | cons r e ih =>
    rw [List.filter_cons]
    split
    · simp only [committed_cons]; omega
    · simp only [committed_cons]; omega

/-- Changing orphan parts alone leaves committed units (R1). -/
theorem committed_map_of_units (f : HolderRecord → HolderRecord) (hf : ∀ r, (f r).units = r.units)
    (e : SlotEntry) : committed (e.map f) = committed e := by
  induction e with
  | nil => rfl
  | cons r e ih => simp [hf, ih]

@[simp] theorem countRecord_units (c : CycleNumber) (r : HolderRecord) :
    (countRecord c r).units = r.units := by
  unfold countRecord
  split
  · split <;> rfl
  · rfl

@[simp] theorem countRecord_station (c : CycleNumber) (r : HolderRecord) :
    (countRecord c r).station = r.station := by
  unfold countRecord
  split
  · split <;> rfl
  · rfl

theorem committed_orphanRecords (p : StationId) (c : CycleNumber) (n : Nat) (e : SlotEntry) :
    committed (orphanRecords p c n e) = committed e := by
  refine committed_map_of_units _ (fun r => ?_) e
  split <;> rfl

theorem committed_countOrphans_le (c : CycleNumber) (e : SlotEntry) :
    committed (countOrphans c e) ≤ committed e :=
  (committed_filter_le _ _).trans (committed_map_of_units _ (countRecord_units c) e).le

/-- The stations of an entry keep their order under an orphan part (R2). -/
theorem stations_orphanRecords (p : StationId) (c : CycleNumber) (n : Nat) (e : SlotEntry) :
    (orphanRecords p c n e).map HolderRecord.station = e.map HolderRecord.station := by
  simp only [orphanRecords, List.map_map]
  refine List.map_congr_left fun r _ => ?_
  simp only [Function.comp]
  split <;> rfl

theorem stations_countOrphans_sublist (c : CycleNumber) (e : SlotEntry) :
    ((countOrphans c e).map HolderRecord.station).Sublist (e.map HolderRecord.station) := by
  have h : (e.map (countRecord c)).map HolderRecord.station = e.map HolderRecord.station := by
    simp [List.map_map, Function.comp_def]
  rw [← h]
  exact List.Sublist.map _ List.filter_sublist

theorem lists_iff (e : SlotEntry) (p : StationId) :
    lists e p = true ↔ p ∈ e.map HolderRecord.station := by
  simp [lists]

theorem listsLive_iff (e : SlotEntry) (p : StationId) :
    listsLive e p = true ↔ ∃ r ∈ e, r.station = p ∧ r.orphan = none := by
  simp [listsLive, HolderRecord.isLive]

theorem lists_of_listsLive {e : SlotEntry} {p : StationId} (h : listsLive e p = true) :
    lists e p = true := by
  obtain ⟨r, hr, rfl, _⟩ := (listsLive_iff e p).1 h
  exact (lists_iff e _).2 (List.mem_map_of_mem hr)

/-- What fits is not listed and stays within the budget (Tables 1-3, 3-3). -/
theorem fits_iff (budget : Nat) (p : StationId) (u : Nat) (e : SlotEntry) :
    fits budget p u e = true ↔ p ∉ e.map HolderRecord.station ∧ committed e + u ≤ budget := by
  simp [fits, lists]

/-! ### The map, slot by slot -/

@[simp] theorem SlotMap.get_cleared (k : SlotIndex) : Table.get SlotMap.cleared k = [] := by
  simp [SlotMap.cleared]

@[simp] theorem SlotMap.get_admission (b : Nat) (p : StationId) (u : Nat) (x : SlotSet) (m : SlotMap)
    (k : SlotIndex) :
    (m.admission b p u x).get k =
      if slotIn x k && fits b p u (m.get k) then append p u (m.get k) else m.get k := by
  simp [SlotMap.admission]

@[simp] theorem SlotMap.get_release (p : StationId) (x : SlotSet) (m : SlotMap) (k : SlotIndex) :
    (m.release p x).get k = if slotIn x k then removeLive p (m.get k) else m.get k := by
  simp [SlotMap.release]

@[simp] theorem SlotMap.get_contest (p : StationId) (x : SlotSet) (m : SlotMap) (k : SlotIndex) :
    (m.contest p x).get k = if slotIn x k then removeAll p (m.get k) else m.get k := by
  simp [SlotMap.contest]

@[simp] theorem SlotMap.get_removeStation (p : StationId) (m : SlotMap) (k : SlotIndex) :
    (m.removeStation p).get k = removeAll p (m.get k) := by
  simp [SlotMap.removeStation]

@[simp] theorem SlotMap.get_removeLiveOf (p : StationId) (m : SlotMap) (k : SlotIndex) :
    (m.removeLiveOf p).get k = removeLive p (m.get k) := by
  simp [SlotMap.removeLiveOf]

@[simp] theorem SlotMap.get_orphan (p : StationId) (c : CycleNumber) (n : Nat) (m : SlotMap)
    (k : SlotIndex) : (m.orphan p c n).get k = orphanRecords p c n (m.get k) := by
  simp [SlotMap.orphan]

@[simp] theorem SlotMap.get_countdown (c : CycleNumber) (m : SlotMap) (k : SlotIndex) :
    (m.countdown c).get k = countOrphans c (m.get k) := by
  simp [SlotMap.countdown]

@[simp] theorem SlotMap.get_reconcile (b : Nat) (p : StationId) (u : Nat) (back : Bool) (x : SlotSet)
    (m : SlotMap) (k : SlotIndex) :
    (m.reconcile b p u back x).get k = reconcileSlot b p u back (slotIn x k) (m.get k) := by
  simp [SlotMap.reconcile]

@[simp] theorem SlotMap.mem_granted (b : Nat) (p : StationId) (u : Nat) (x : SlotSet) (m : SlotMap)
    (k : SlotIndex) :
    k ∈ m.granted b p u x ↔ slotIn x k = true ∧ fits b p u (m.get k) = true := by
  simp [SlotMap.granted]

@[simp] theorem SlotMap.slotIn_heldBy (p : StationId) (m : SlotMap) (k : SlotIndex) :
    slotIn (m.heldBy p) k = listsLive (m.get k) p := by
  simp [SlotMap.heldBy]

theorem SlotMap.anyLive_iff (p : StationId) (m : SlotMap) :
    m.anyLive p = true ↔ ∃ k, listsLive (m.get k) p = true := by
  simp [SlotMap.anyLive]

@[simp] theorem SlotMap.slotIn_designatedSlots (b : Nat) (prio : StationId → Priority) (p : StationId)
    (m : SlotMap) (k : SlotIndex) :
    slotIn (m.designatedSlots b prio p) k = (designated b prio (m.get k)).contains p := by
  simp [SlotMap.designatedSlots]

/-! ### Reconciliation in the terms of the statements -/

theorem reconcileRemovals_eq (p : StationId) (back announced : Bool) (e : SlotEntry) :
    reconcileRemovals p back announced e = e.filter fun r =>
      !(r.station == p && ((back && r.orphan.isSome) || !announced)) := by
  unfold reconcileRemovals removeOrphan removeAll HolderRecord.isLive
  cases back <;> cases announced <;> simp [List.filter_filter]
  · refine List.filter_congr fun r _ => ?_
    cases r.orphan <;> simp

/-- One slot of a PRESENCE is what R44 to R46 say. -/
theorem reconcileSlot_eq_reconciled (b : Nat) (p : StationId) (u : Nat) (back announced : Bool)
    (e : SlotEntry) : reconcileSlot b p u back announced e = reconciled b p u back announced e := by
  unfold reconcileSlot reconciled
  rw [reconcileRemovals_eq]
  simp only [Bool.and_eq_true, fits_iff, append, committed, List.mem_map, not_exists, not_and]

theorem contested_eq_mustContest (b : Nat) (p : StationId) (u : Nat) (back announced : Bool)
    (e : SlotEntry) : contested b p u back announced e = mustContest b p u back announced e := by
  unfold contested mustContest
  rw [reconcileRemovals_eq, Bool.eq_iff_iff]
  simp only [Bool.and_eq_true, Bool.not_eq_true', ← Bool.not_eq_true, fits_iff, lists_iff,
    List.mem_map, decide_eq_true_eq, committed]
  constructor
  · rintro ⟨⟨ha, hl⟩, hf⟩
    exact ⟨ha, fun r hr h => hl ⟨r, hr, h⟩, by
      by_contra hc; exact hf ⟨hl, not_lt.1 hc⟩⟩
  · rintro ⟨ha, hl, hf⟩
    exact ⟨⟨ha, fun ⟨r, hr, h⟩ => hl r hr h⟩, fun h => absurd h.2 (not_le.2 hf)⟩

end Sys2Proof.Machine
end

