-- ==== Sys2Proof/Laws/State.lean ====
section
/-!
SUPPORT. What each update of State.lean's blocks reads back as: one lemma per field per update, true by
rfl. Later proofs never unfold an update.
-/

namespace Sys2Proof.Machine

@[simp] theorem State.pending_withPending (s : State) (x : List Instr) :
    (s.withPending x).pending = x := rfl
@[simp] theorem State.rstn_withPending (s : State) (x : List Instr) :
    (s.withPending x).rstn = s.rstn := rfl
@[simp] theorem State.id_withPending (s : State) (x : List Instr) :
    (s.withPending x).id = s.id := rfl
@[simp] theorem State.setup_withPending (s : State) (x : List Instr) :
    (s.withPending x).setup = s.setup := rfl
@[simp] theorem State.line_withPending (s : State) (x : List Instr) :
    (s.withPending x).line = s.line := rfl
@[simp] theorem State.outbox_withPending (s : State) (x : List Instr) :
    (s.withPending x).outbox = s.outbox := rfl
@[simp] theorem State.timer_withPending (s : State) (x : List Instr) :
    (s.withPending x).timer = s.timer := rfl
@[simp] theorem State.map_withPending (s : State) (x : List Instr) :
    (s.withPending x).map = s.map := rfl
@[simp] theorem State.peers_withPending (s : State) (x : List Instr) :
    (s.withPending x).peers = s.peers := rfl
@[simp] theorem State.member_withPending (s : State) (x : List Instr) :
    (s.withPending x).member = s.member := rfl
@[simp] theorem State.demands_withPending (s : State) (x : List Instr) :
    (s.withPending x).demands = s.demands := rfl
@[simp] theorem State.planner_withPending (s : State) (x : List Instr) :
    (s.withPending x).planner = s.planner := rfl
@[simp] theorem State.holdings_withPending (s : State) (x : List Instr) :
    (s.withPending x).holdings = s.holdings := rfl
@[simp] theorem State.sag_withPending (s : State) (x : List Instr) :
    (s.withPending x).sag = s.sag := rfl
@[simp] theorem State.output_withPending (s : State) (x : List Instr) :
    (s.withPending x).output = s.output := rfl
@[simp] theorem State.port_withPending (s : State) (x : List Instr) :
    (s.withPending x).port = s.port := rfl
@[simp] theorem State.notes_withPending (s : State) (x : List Instr) :
    (s.withPending x).notes = s.notes := rfl
@[simp] theorem State.snap_withPending (s : State) (x : List Instr) :
    (s.withPending x).snap = s.snap := rfl

@[simp] theorem State.pending_withRstn (s : State) (x : Bool) :
    (s.withRstn x).pending = s.pending := rfl
@[simp] theorem State.rstn_withRstn (s : State) (x : Bool) :
    (s.withRstn x).rstn = x := rfl
@[simp] theorem State.id_withRstn (s : State) (x : Bool) :
    (s.withRstn x).id = s.id := rfl
@[simp] theorem State.setup_withRstn (s : State) (x : Bool) :
    (s.withRstn x).setup = s.setup := rfl
@[simp] theorem State.line_withRstn (s : State) (x : Bool) :
    (s.withRstn x).line = s.line := rfl
@[simp] theorem State.outbox_withRstn (s : State) (x : Bool) :
    (s.withRstn x).outbox = s.outbox := rfl
@[simp] theorem State.timer_withRstn (s : State) (x : Bool) :
    (s.withRstn x).timer = s.timer := rfl
@[simp] theorem State.map_withRstn (s : State) (x : Bool) :
    (s.withRstn x).map = s.map := rfl
@[simp] theorem State.peers_withRstn (s : State) (x : Bool) :
    (s.withRstn x).peers = s.peers := rfl
@[simp] theorem State.member_withRstn (s : State) (x : Bool) :
    (s.withRstn x).member = s.member := rfl
@[simp] theorem State.demands_withRstn (s : State) (x : Bool) :
    (s.withRstn x).demands = s.demands := rfl
@[simp] theorem State.planner_withRstn (s : State) (x : Bool) :
    (s.withRstn x).planner = s.planner := rfl
@[simp] theorem State.holdings_withRstn (s : State) (x : Bool) :
    (s.withRstn x).holdings = s.holdings := rfl
@[simp] theorem State.sag_withRstn (s : State) (x : Bool) :
    (s.withRstn x).sag = s.sag := rfl
@[simp] theorem State.output_withRstn (s : State) (x : Bool) :
    (s.withRstn x).output = s.output := rfl
@[simp] theorem State.port_withRstn (s : State) (x : Bool) :
    (s.withRstn x).port = s.port := rfl
@[simp] theorem State.notes_withRstn (s : State) (x : Bool) :
    (s.withRstn x).notes = s.notes := rfl
@[simp] theorem State.snap_withRstn (s : State) (x : Bool) :
    (s.withRstn x).snap = s.snap := rfl

@[simp] theorem State.pending_withId (s : State) (x : StationId) :
    (s.withId x).pending = s.pending := rfl
@[simp] theorem State.rstn_withId (s : State) (x : StationId) :
    (s.withId x).rstn = s.rstn := rfl
@[simp] theorem State.id_withId (s : State) (x : StationId) :
    (s.withId x).id = x := rfl
@[simp] theorem State.setup_withId (s : State) (x : StationId) :
    (s.withId x).setup = s.setup := rfl
@[simp] theorem State.line_withId (s : State) (x : StationId) :
    (s.withId x).line = s.line := rfl
@[simp] theorem State.outbox_withId (s : State) (x : StationId) :
    (s.withId x).outbox = s.outbox := rfl
@[simp] theorem State.timer_withId (s : State) (x : StationId) :
    (s.withId x).timer = s.timer := rfl
@[simp] theorem State.map_withId (s : State) (x : StationId) :
    (s.withId x).map = s.map := rfl
@[simp] theorem State.peers_withId (s : State) (x : StationId) :
    (s.withId x).peers = s.peers := rfl
@[simp] theorem State.member_withId (s : State) (x : StationId) :
    (s.withId x).member = s.member := rfl
@[simp] theorem State.demands_withId (s : State) (x : StationId) :
    (s.withId x).demands = s.demands := rfl
@[simp] theorem State.planner_withId (s : State) (x : StationId) :
    (s.withId x).planner = s.planner := rfl
@[simp] theorem State.holdings_withId (s : State) (x : StationId) :
    (s.withId x).holdings = s.holdings := rfl
@[simp] theorem State.sag_withId (s : State) (x : StationId) :
    (s.withId x).sag = s.sag := rfl
@[simp] theorem State.output_withId (s : State) (x : StationId) :
    (s.withId x).output = s.output := rfl
@[simp] theorem State.port_withId (s : State) (x : StationId) :
    (s.withId x).port = s.port := rfl
@[simp] theorem State.notes_withId (s : State) (x : StationId) :
    (s.withId x).notes = s.notes := rfl
@[simp] theorem State.snap_withId (s : State) (x : StationId) :
    (s.withId x).snap = s.snap := rfl

@[simp] theorem State.pending_withSetup (s : State) (x : Option Setup) :
    (s.withSetup x).pending = s.pending := rfl
@[simp] theorem State.rstn_withSetup (s : State) (x : Option Setup) :
    (s.withSetup x).rstn = s.rstn := rfl
@[simp] theorem State.id_withSetup (s : State) (x : Option Setup) :
    (s.withSetup x).id = s.id := rfl
@[simp] theorem State.setup_withSetup (s : State) (x : Option Setup) :
    (s.withSetup x).setup = x := rfl
@[simp] theorem State.line_withSetup (s : State) (x : Option Setup) :
    (s.withSetup x).line = s.line := rfl
@[simp] theorem State.outbox_withSetup (s : State) (x : Option Setup) :
    (s.withSetup x).outbox = s.outbox := rfl
@[simp] theorem State.timer_withSetup (s : State) (x : Option Setup) :
    (s.withSetup x).timer = s.timer := rfl
@[simp] theorem State.map_withSetup (s : State) (x : Option Setup) :
    (s.withSetup x).map = s.map := rfl
@[simp] theorem State.peers_withSetup (s : State) (x : Option Setup) :
    (s.withSetup x).peers = s.peers := rfl
@[simp] theorem State.member_withSetup (s : State) (x : Option Setup) :
    (s.withSetup x).member = s.member := rfl
@[simp] theorem State.demands_withSetup (s : State) (x : Option Setup) :
    (s.withSetup x).demands = s.demands := rfl
@[simp] theorem State.planner_withSetup (s : State) (x : Option Setup) :
    (s.withSetup x).planner = s.planner := rfl
@[simp] theorem State.holdings_withSetup (s : State) (x : Option Setup) :
    (s.withSetup x).holdings = s.holdings := rfl
@[simp] theorem State.sag_withSetup (s : State) (x : Option Setup) :
    (s.withSetup x).sag = s.sag := rfl
@[simp] theorem State.output_withSetup (s : State) (x : Option Setup) :
    (s.withSetup x).output = s.output := rfl
@[simp] theorem State.port_withSetup (s : State) (x : Option Setup) :
    (s.withSetup x).port = s.port := rfl
@[simp] theorem State.notes_withSetup (s : State) (x : Option Setup) :
    (s.withSetup x).notes = s.notes := rfl
@[simp] theorem State.snap_withSetup (s : State) (x : Option Setup) :
    (s.withSetup x).snap = s.snap := rfl

@[simp] theorem State.pending_withLine (s : State) (x : LineController) :
    (s.withLine x).pending = s.pending := rfl
@[simp] theorem State.rstn_withLine (s : State) (x : LineController) :
    (s.withLine x).rstn = s.rstn := rfl
@[simp] theorem State.id_withLine (s : State) (x : LineController) :
    (s.withLine x).id = s.id := rfl
@[simp] theorem State.setup_withLine (s : State) (x : LineController) :
    (s.withLine x).setup = s.setup := rfl
@[simp] theorem State.line_withLine (s : State) (x : LineController) :
    (s.withLine x).line = x := rfl
@[simp] theorem State.outbox_withLine (s : State) (x : LineController) :
    (s.withLine x).outbox = s.outbox := rfl
@[simp] theorem State.timer_withLine (s : State) (x : LineController) :
    (s.withLine x).timer = s.timer := rfl
@[simp] theorem State.map_withLine (s : State) (x : LineController) :
    (s.withLine x).map = s.map := rfl
@[simp] theorem State.peers_withLine (s : State) (x : LineController) :
    (s.withLine x).peers = s.peers := rfl
@[simp] theorem State.member_withLine (s : State) (x : LineController) :
    (s.withLine x).member = s.member := rfl
@[simp] theorem State.demands_withLine (s : State) (x : LineController) :
    (s.withLine x).demands = s.demands := rfl
@[simp] theorem State.planner_withLine (s : State) (x : LineController) :
    (s.withLine x).planner = s.planner := rfl
@[simp] theorem State.holdings_withLine (s : State) (x : LineController) :
    (s.withLine x).holdings = s.holdings := rfl
@[simp] theorem State.sag_withLine (s : State) (x : LineController) :
    (s.withLine x).sag = s.sag := rfl
@[simp] theorem State.output_withLine (s : State) (x : LineController) :
    (s.withLine x).output = s.output := rfl
@[simp] theorem State.port_withLine (s : State) (x : LineController) :
    (s.withLine x).port = s.port := rfl
@[simp] theorem State.notes_withLine (s : State) (x : LineController) :
    (s.withLine x).notes = s.notes := rfl
@[simp] theorem State.snap_withLine (s : State) (x : LineController) :
    (s.withLine x).snap = s.snap := rfl

@[simp] theorem State.pending_withOutbox (s : State) (x : Outbox) :
    (s.withOutbox x).pending = s.pending := rfl
@[simp] theorem State.rstn_withOutbox (s : State) (x : Outbox) :
    (s.withOutbox x).rstn = s.rstn := rfl
@[simp] theorem State.id_withOutbox (s : State) (x : Outbox) :
    (s.withOutbox x).id = s.id := rfl
@[simp] theorem State.setup_withOutbox (s : State) (x : Outbox) :
    (s.withOutbox x).setup = s.setup := rfl
@[simp] theorem State.line_withOutbox (s : State) (x : Outbox) :
    (s.withOutbox x).line = s.line := rfl
@[simp] theorem State.outbox_withOutbox (s : State) (x : Outbox) :
    (s.withOutbox x).outbox = x := rfl
@[simp] theorem State.timer_withOutbox (s : State) (x : Outbox) :
    (s.withOutbox x).timer = s.timer := rfl
@[simp] theorem State.map_withOutbox (s : State) (x : Outbox) :
    (s.withOutbox x).map = s.map := rfl
@[simp] theorem State.peers_withOutbox (s : State) (x : Outbox) :
    (s.withOutbox x).peers = s.peers := rfl
@[simp] theorem State.member_withOutbox (s : State) (x : Outbox) :
    (s.withOutbox x).member = s.member := rfl
@[simp] theorem State.demands_withOutbox (s : State) (x : Outbox) :
    (s.withOutbox x).demands = s.demands := rfl
@[simp] theorem State.planner_withOutbox (s : State) (x : Outbox) :
    (s.withOutbox x).planner = s.planner := rfl
@[simp] theorem State.holdings_withOutbox (s : State) (x : Outbox) :
    (s.withOutbox x).holdings = s.holdings := rfl
@[simp] theorem State.sag_withOutbox (s : State) (x : Outbox) :
    (s.withOutbox x).sag = s.sag := rfl
@[simp] theorem State.output_withOutbox (s : State) (x : Outbox) :
    (s.withOutbox x).output = s.output := rfl
@[simp] theorem State.port_withOutbox (s : State) (x : Outbox) :
    (s.withOutbox x).port = s.port := rfl
@[simp] theorem State.notes_withOutbox (s : State) (x : Outbox) :
    (s.withOutbox x).notes = s.notes := rfl
@[simp] theorem State.snap_withOutbox (s : State) (x : Outbox) :
    (s.withOutbox x).snap = s.snap := rfl

@[simp] theorem State.pending_withTimer (s : State) (x : CycleTimer) :
    (s.withTimer x).pending = s.pending := rfl
@[simp] theorem State.rstn_withTimer (s : State) (x : CycleTimer) :
    (s.withTimer x).rstn = s.rstn := rfl
@[simp] theorem State.id_withTimer (s : State) (x : CycleTimer) :
    (s.withTimer x).id = s.id := rfl
@[simp] theorem State.setup_withTimer (s : State) (x : CycleTimer) :
    (s.withTimer x).setup = s.setup := rfl
@[simp] theorem State.line_withTimer (s : State) (x : CycleTimer) :
    (s.withTimer x).line = s.line := rfl
@[simp] theorem State.outbox_withTimer (s : State) (x : CycleTimer) :
    (s.withTimer x).outbox = s.outbox := rfl
@[simp] theorem State.timer_withTimer (s : State) (x : CycleTimer) :
    (s.withTimer x).timer = x := rfl
@[simp] theorem State.map_withTimer (s : State) (x : CycleTimer) :
    (s.withTimer x).map = s.map := rfl
@[simp] theorem State.peers_withTimer (s : State) (x : CycleTimer) :
    (s.withTimer x).peers = s.peers := rfl
@[simp] theorem State.member_withTimer (s : State) (x : CycleTimer) :
    (s.withTimer x).member = s.member := rfl
@[simp] theorem State.demands_withTimer (s : State) (x : CycleTimer) :
    (s.withTimer x).demands = s.demands := rfl
@[simp] theorem State.planner_withTimer (s : State) (x : CycleTimer) :
    (s.withTimer x).planner = s.planner := rfl
@[simp] theorem State.holdings_withTimer (s : State) (x : CycleTimer) :
    (s.withTimer x).holdings = s.holdings := rfl
@[simp] theorem State.sag_withTimer (s : State) (x : CycleTimer) :
    (s.withTimer x).sag = s.sag := rfl
@[simp] theorem State.output_withTimer (s : State) (x : CycleTimer) :
    (s.withTimer x).output = s.output := rfl
@[simp] theorem State.port_withTimer (s : State) (x : CycleTimer) :
    (s.withTimer x).port = s.port := rfl
@[simp] theorem State.notes_withTimer (s : State) (x : CycleTimer) :
    (s.withTimer x).notes = s.notes := rfl
@[simp] theorem State.snap_withTimer (s : State) (x : CycleTimer) :
    (s.withTimer x).snap = s.snap := rfl

@[simp] theorem State.pending_withMap (s : State) (x : SlotMap) :
    (s.withMap x).pending = s.pending := rfl
@[simp] theorem State.rstn_withMap (s : State) (x : SlotMap) :
    (s.withMap x).rstn = s.rstn := rfl
@[simp] theorem State.id_withMap (s : State) (x : SlotMap) :
    (s.withMap x).id = s.id := rfl
@[simp] theorem State.setup_withMap (s : State) (x : SlotMap) :
    (s.withMap x).setup = s.setup := rfl
@[simp] theorem State.line_withMap (s : State) (x : SlotMap) :
    (s.withMap x).line = s.line := rfl
@[simp] theorem State.outbox_withMap (s : State) (x : SlotMap) :
    (s.withMap x).outbox = s.outbox := rfl
@[simp] theorem State.timer_withMap (s : State) (x : SlotMap) :
    (s.withMap x).timer = s.timer := rfl
@[simp] theorem State.map_withMap (s : State) (x : SlotMap) :
    (s.withMap x).map = x := rfl
@[simp] theorem State.peers_withMap (s : State) (x : SlotMap) :
    (s.withMap x).peers = s.peers := rfl
@[simp] theorem State.member_withMap (s : State) (x : SlotMap) :
    (s.withMap x).member = s.member := rfl
@[simp] theorem State.demands_withMap (s : State) (x : SlotMap) :
    (s.withMap x).demands = s.demands := rfl
@[simp] theorem State.planner_withMap (s : State) (x : SlotMap) :
    (s.withMap x).planner = s.planner := rfl
@[simp] theorem State.holdings_withMap (s : State) (x : SlotMap) :
    (s.withMap x).holdings = s.holdings := rfl
@[simp] theorem State.sag_withMap (s : State) (x : SlotMap) :
    (s.withMap x).sag = s.sag := rfl
@[simp] theorem State.output_withMap (s : State) (x : SlotMap) :
    (s.withMap x).output = s.output := rfl
@[simp] theorem State.port_withMap (s : State) (x : SlotMap) :
    (s.withMap x).port = s.port := rfl
@[simp] theorem State.notes_withMap (s : State) (x : SlotMap) :
    (s.withMap x).notes = s.notes := rfl
@[simp] theorem State.snap_withMap (s : State) (x : SlotMap) :
    (s.withMap x).snap = s.snap := rfl

@[simp] theorem State.pending_withPeers (s : State) (x : PeerTable) :
    (s.withPeers x).pending = s.pending := rfl
@[simp] theorem State.rstn_withPeers (s : State) (x : PeerTable) :
    (s.withPeers x).rstn = s.rstn := rfl
@[simp] theorem State.id_withPeers (s : State) (x : PeerTable) :
    (s.withPeers x).id = s.id := rfl
@[simp] theorem State.setup_withPeers (s : State) (x : PeerTable) :
    (s.withPeers x).setup = s.setup := rfl
@[simp] theorem State.line_withPeers (s : State) (x : PeerTable) :
    (s.withPeers x).line = s.line := rfl
@[simp] theorem State.outbox_withPeers (s : State) (x : PeerTable) :
    (s.withPeers x).outbox = s.outbox := rfl
@[simp] theorem State.timer_withPeers (s : State) (x : PeerTable) :
    (s.withPeers x).timer = s.timer := rfl
@[simp] theorem State.map_withPeers (s : State) (x : PeerTable) :
    (s.withPeers x).map = s.map := rfl
@[simp] theorem State.peers_withPeers (s : State) (x : PeerTable) :
    (s.withPeers x).peers = x := rfl
@[simp] theorem State.member_withPeers (s : State) (x : PeerTable) :
    (s.withPeers x).member = s.member := rfl
@[simp] theorem State.demands_withPeers (s : State) (x : PeerTable) :
    (s.withPeers x).demands = s.demands := rfl
@[simp] theorem State.planner_withPeers (s : State) (x : PeerTable) :
    (s.withPeers x).planner = s.planner := rfl
@[simp] theorem State.holdings_withPeers (s : State) (x : PeerTable) :
    (s.withPeers x).holdings = s.holdings := rfl
@[simp] theorem State.sag_withPeers (s : State) (x : PeerTable) :
    (s.withPeers x).sag = s.sag := rfl
@[simp] theorem State.output_withPeers (s : State) (x : PeerTable) :
    (s.withPeers x).output = s.output := rfl
@[simp] theorem State.port_withPeers (s : State) (x : PeerTable) :
    (s.withPeers x).port = s.port := rfl
@[simp] theorem State.notes_withPeers (s : State) (x : PeerTable) :
    (s.withPeers x).notes = s.notes := rfl
@[simp] theorem State.snap_withPeers (s : State) (x : PeerTable) :
    (s.withPeers x).snap = s.snap := rfl

@[simp] theorem State.pending_withMember (s : State) (x : Membership) :
    (s.withMember x).pending = s.pending := rfl
@[simp] theorem State.rstn_withMember (s : State) (x : Membership) :
    (s.withMember x).rstn = s.rstn := rfl
@[simp] theorem State.id_withMember (s : State) (x : Membership) :
    (s.withMember x).id = s.id := rfl
@[simp] theorem State.setup_withMember (s : State) (x : Membership) :
    (s.withMember x).setup = s.setup := rfl
@[simp] theorem State.line_withMember (s : State) (x : Membership) :
    (s.withMember x).line = s.line := rfl
@[simp] theorem State.outbox_withMember (s : State) (x : Membership) :
    (s.withMember x).outbox = s.outbox := rfl
@[simp] theorem State.timer_withMember (s : State) (x : Membership) :
    (s.withMember x).timer = s.timer := rfl
@[simp] theorem State.map_withMember (s : State) (x : Membership) :
    (s.withMember x).map = s.map := rfl
@[simp] theorem State.peers_withMember (s : State) (x : Membership) :
    (s.withMember x).peers = s.peers := rfl
@[simp] theorem State.member_withMember (s : State) (x : Membership) :
    (s.withMember x).member = x := rfl
@[simp] theorem State.demands_withMember (s : State) (x : Membership) :
    (s.withMember x).demands = s.demands := rfl
@[simp] theorem State.planner_withMember (s : State) (x : Membership) :
    (s.withMember x).planner = s.planner := rfl
@[simp] theorem State.holdings_withMember (s : State) (x : Membership) :
    (s.withMember x).holdings = s.holdings := rfl
@[simp] theorem State.sag_withMember (s : State) (x : Membership) :
    (s.withMember x).sag = s.sag := rfl
@[simp] theorem State.output_withMember (s : State) (x : Membership) :
    (s.withMember x).output = s.output := rfl
@[simp] theorem State.port_withMember (s : State) (x : Membership) :
    (s.withMember x).port = s.port := rfl
@[simp] theorem State.notes_withMember (s : State) (x : Membership) :
    (s.withMember x).notes = s.notes := rfl
@[simp] theorem State.snap_withMember (s : State) (x : Membership) :
    (s.withMember x).snap = s.snap := rfl

@[simp] theorem State.pending_withDemands (s : State) (x : List Demand) :
    (s.withDemands x).pending = s.pending := rfl
@[simp] theorem State.rstn_withDemands (s : State) (x : List Demand) :
    (s.withDemands x).rstn = s.rstn := rfl
@[simp] theorem State.id_withDemands (s : State) (x : List Demand) :
    (s.withDemands x).id = s.id := rfl
@[simp] theorem State.setup_withDemands (s : State) (x : List Demand) :
    (s.withDemands x).setup = s.setup := rfl
@[simp] theorem State.line_withDemands (s : State) (x : List Demand) :
    (s.withDemands x).line = s.line := rfl
@[simp] theorem State.outbox_withDemands (s : State) (x : List Demand) :
    (s.withDemands x).outbox = s.outbox := rfl
@[simp] theorem State.timer_withDemands (s : State) (x : List Demand) :
    (s.withDemands x).timer = s.timer := rfl
@[simp] theorem State.map_withDemands (s : State) (x : List Demand) :
    (s.withDemands x).map = s.map := rfl
@[simp] theorem State.peers_withDemands (s : State) (x : List Demand) :
    (s.withDemands x).peers = s.peers := rfl
@[simp] theorem State.member_withDemands (s : State) (x : List Demand) :
    (s.withDemands x).member = s.member := rfl
@[simp] theorem State.demands_withDemands (s : State) (x : List Demand) :
    (s.withDemands x).demands = x := rfl
@[simp] theorem State.planner_withDemands (s : State) (x : List Demand) :
    (s.withDemands x).planner = s.planner := rfl
@[simp] theorem State.holdings_withDemands (s : State) (x : List Demand) :
    (s.withDemands x).holdings = s.holdings := rfl
@[simp] theorem State.sag_withDemands (s : State) (x : List Demand) :
    (s.withDemands x).sag = s.sag := rfl
@[simp] theorem State.output_withDemands (s : State) (x : List Demand) :
    (s.withDemands x).output = s.output := rfl
@[simp] theorem State.port_withDemands (s : State) (x : List Demand) :
    (s.withDemands x).port = s.port := rfl
@[simp] theorem State.notes_withDemands (s : State) (x : List Demand) :
    (s.withDemands x).notes = s.notes := rfl
@[simp] theorem State.snap_withDemands (s : State) (x : List Demand) :
    (s.withDemands x).snap = s.snap := rfl

@[simp] theorem State.pending_withPlanner (s : State) (x : ClaimPlanner) :
    (s.withPlanner x).pending = s.pending := rfl
@[simp] theorem State.rstn_withPlanner (s : State) (x : ClaimPlanner) :
    (s.withPlanner x).rstn = s.rstn := rfl
@[simp] theorem State.id_withPlanner (s : State) (x : ClaimPlanner) :
    (s.withPlanner x).id = s.id := rfl
@[simp] theorem State.setup_withPlanner (s : State) (x : ClaimPlanner) :
    (s.withPlanner x).setup = s.setup := rfl
@[simp] theorem State.line_withPlanner (s : State) (x : ClaimPlanner) :
    (s.withPlanner x).line = s.line := rfl
@[simp] theorem State.outbox_withPlanner (s : State) (x : ClaimPlanner) :
    (s.withPlanner x).outbox = s.outbox := rfl
@[simp] theorem State.timer_withPlanner (s : State) (x : ClaimPlanner) :
    (s.withPlanner x).timer = s.timer := rfl
@[simp] theorem State.map_withPlanner (s : State) (x : ClaimPlanner) :
    (s.withPlanner x).map = s.map := rfl
@[simp] theorem State.peers_withPlanner (s : State) (x : ClaimPlanner) :
    (s.withPlanner x).peers = s.peers := rfl
@[simp] theorem State.member_withPlanner (s : State) (x : ClaimPlanner) :
    (s.withPlanner x).member = s.member := rfl
@[simp] theorem State.demands_withPlanner (s : State) (x : ClaimPlanner) :
    (s.withPlanner x).demands = s.demands := rfl
@[simp] theorem State.planner_withPlanner (s : State) (x : ClaimPlanner) :
    (s.withPlanner x).planner = x := rfl
@[simp] theorem State.holdings_withPlanner (s : State) (x : ClaimPlanner) :
    (s.withPlanner x).holdings = s.holdings := rfl
@[simp] theorem State.sag_withPlanner (s : State) (x : ClaimPlanner) :
    (s.withPlanner x).sag = s.sag := rfl
@[simp] theorem State.output_withPlanner (s : State) (x : ClaimPlanner) :
    (s.withPlanner x).output = s.output := rfl
@[simp] theorem State.port_withPlanner (s : State) (x : ClaimPlanner) :
    (s.withPlanner x).port = s.port := rfl
@[simp] theorem State.notes_withPlanner (s : State) (x : ClaimPlanner) :
    (s.withPlanner x).notes = s.notes := rfl
@[simp] theorem State.snap_withPlanner (s : State) (x : ClaimPlanner) :
    (s.withPlanner x).snap = s.snap := rfl

@[simp] theorem State.pending_withHoldings (s : State) (x : List Holding) :
    (s.withHoldings x).pending = s.pending := rfl
@[simp] theorem State.rstn_withHoldings (s : State) (x : List Holding) :
    (s.withHoldings x).rstn = s.rstn := rfl
@[simp] theorem State.id_withHoldings (s : State) (x : List Holding) :
    (s.withHoldings x).id = s.id := rfl
@[simp] theorem State.setup_withHoldings (s : State) (x : List Holding) :
    (s.withHoldings x).setup = s.setup := rfl
@[simp] theorem State.line_withHoldings (s : State) (x : List Holding) :
    (s.withHoldings x).line = s.line := rfl
@[simp] theorem State.outbox_withHoldings (s : State) (x : List Holding) :
    (s.withHoldings x).outbox = s.outbox := rfl
@[simp] theorem State.timer_withHoldings (s : State) (x : List Holding) :
    (s.withHoldings x).timer = s.timer := rfl
@[simp] theorem State.map_withHoldings (s : State) (x : List Holding) :
    (s.withHoldings x).map = s.map := rfl
@[simp] theorem State.peers_withHoldings (s : State) (x : List Holding) :
    (s.withHoldings x).peers = s.peers := rfl
@[simp] theorem State.member_withHoldings (s : State) (x : List Holding) :
    (s.withHoldings x).member = s.member := rfl
@[simp] theorem State.demands_withHoldings (s : State) (x : List Holding) :
    (s.withHoldings x).demands = s.demands := rfl
@[simp] theorem State.planner_withHoldings (s : State) (x : List Holding) :
    (s.withHoldings x).planner = s.planner := rfl
@[simp] theorem State.holdings_withHoldings (s : State) (x : List Holding) :
    (s.withHoldings x).holdings = x := rfl
@[simp] theorem State.sag_withHoldings (s : State) (x : List Holding) :
    (s.withHoldings x).sag = s.sag := rfl
@[simp] theorem State.output_withHoldings (s : State) (x : List Holding) :
    (s.withHoldings x).output = s.output := rfl
@[simp] theorem State.port_withHoldings (s : State) (x : List Holding) :
    (s.withHoldings x).port = s.port := rfl
@[simp] theorem State.notes_withHoldings (s : State) (x : List Holding) :
    (s.withHoldings x).notes = s.notes := rfl
@[simp] theorem State.snap_withHoldings (s : State) (x : List Holding) :
    (s.withHoldings x).snap = s.snap := rfl

@[simp] theorem State.pending_withSag (s : State) (x : SagMonitor) :
    (s.withSag x).pending = s.pending := rfl
@[simp] theorem State.rstn_withSag (s : State) (x : SagMonitor) :
    (s.withSag x).rstn = s.rstn := rfl
@[simp] theorem State.id_withSag (s : State) (x : SagMonitor) :
    (s.withSag x).id = s.id := rfl
@[simp] theorem State.setup_withSag (s : State) (x : SagMonitor) :
    (s.withSag x).setup = s.setup := rfl
@[simp] theorem State.line_withSag (s : State) (x : SagMonitor) :
    (s.withSag x).line = s.line := rfl
@[simp] theorem State.outbox_withSag (s : State) (x : SagMonitor) :
    (s.withSag x).outbox = s.outbox := rfl
@[simp] theorem State.timer_withSag (s : State) (x : SagMonitor) :
    (s.withSag x).timer = s.timer := rfl
@[simp] theorem State.map_withSag (s : State) (x : SagMonitor) :
    (s.withSag x).map = s.map := rfl
@[simp] theorem State.peers_withSag (s : State) (x : SagMonitor) :
    (s.withSag x).peers = s.peers := rfl
@[simp] theorem State.member_withSag (s : State) (x : SagMonitor) :
    (s.withSag x).member = s.member := rfl
@[simp] theorem State.demands_withSag (s : State) (x : SagMonitor) :
    (s.withSag x).demands = s.demands := rfl
@[simp] theorem State.planner_withSag (s : State) (x : SagMonitor) :
    (s.withSag x).planner = s.planner := rfl
@[simp] theorem State.holdings_withSag (s : State) (x : SagMonitor) :
    (s.withSag x).holdings = s.holdings := rfl
@[simp] theorem State.sag_withSag (s : State) (x : SagMonitor) :
    (s.withSag x).sag = x := rfl
@[simp] theorem State.output_withSag (s : State) (x : SagMonitor) :
    (s.withSag x).output = s.output := rfl
@[simp] theorem State.port_withSag (s : State) (x : SagMonitor) :
    (s.withSag x).port = s.port := rfl
@[simp] theorem State.notes_withSag (s : State) (x : SagMonitor) :
    (s.withSag x).notes = s.notes := rfl
@[simp] theorem State.snap_withSag (s : State) (x : SagMonitor) :
    (s.withSag x).snap = s.snap := rfl

@[simp] theorem State.pending_withOutput (s : State) (x : LoadOutput) :
    (s.withOutput x).pending = s.pending := rfl
@[simp] theorem State.rstn_withOutput (s : State) (x : LoadOutput) :
    (s.withOutput x).rstn = s.rstn := rfl
@[simp] theorem State.id_withOutput (s : State) (x : LoadOutput) :
    (s.withOutput x).id = s.id := rfl
@[simp] theorem State.setup_withOutput (s : State) (x : LoadOutput) :
    (s.withOutput x).setup = s.setup := rfl
@[simp] theorem State.line_withOutput (s : State) (x : LoadOutput) :
    (s.withOutput x).line = s.line := rfl
@[simp] theorem State.outbox_withOutput (s : State) (x : LoadOutput) :
    (s.withOutput x).outbox = s.outbox := rfl
@[simp] theorem State.timer_withOutput (s : State) (x : LoadOutput) :
    (s.withOutput x).timer = s.timer := rfl
@[simp] theorem State.map_withOutput (s : State) (x : LoadOutput) :
    (s.withOutput x).map = s.map := rfl
@[simp] theorem State.peers_withOutput (s : State) (x : LoadOutput) :
    (s.withOutput x).peers = s.peers := rfl
@[simp] theorem State.member_withOutput (s : State) (x : LoadOutput) :
    (s.withOutput x).member = s.member := rfl
@[simp] theorem State.demands_withOutput (s : State) (x : LoadOutput) :
    (s.withOutput x).demands = s.demands := rfl
@[simp] theorem State.planner_withOutput (s : State) (x : LoadOutput) :
    (s.withOutput x).planner = s.planner := rfl
@[simp] theorem State.holdings_withOutput (s : State) (x : LoadOutput) :
    (s.withOutput x).holdings = s.holdings := rfl
@[simp] theorem State.sag_withOutput (s : State) (x : LoadOutput) :
    (s.withOutput x).sag = s.sag := rfl
@[simp] theorem State.output_withOutput (s : State) (x : LoadOutput) :
    (s.withOutput x).output = x := rfl
@[simp] theorem State.port_withOutput (s : State) (x : LoadOutput) :
    (s.withOutput x).port = s.port := rfl
@[simp] theorem State.notes_withOutput (s : State) (x : LoadOutput) :
    (s.withOutput x).notes = s.notes := rfl
@[simp] theorem State.snap_withOutput (s : State) (x : LoadOutput) :
    (s.withOutput x).snap = s.snap := rfl

@[simp] theorem State.pending_withPort (s : State) (x : HostPort) :
    (s.withPort x).pending = s.pending := rfl
@[simp] theorem State.rstn_withPort (s : State) (x : HostPort) :
    (s.withPort x).rstn = s.rstn := rfl
@[simp] theorem State.id_withPort (s : State) (x : HostPort) :
    (s.withPort x).id = s.id := rfl
@[simp] theorem State.setup_withPort (s : State) (x : HostPort) :
    (s.withPort x).setup = s.setup := rfl
@[simp] theorem State.line_withPort (s : State) (x : HostPort) :
    (s.withPort x).line = s.line := rfl
@[simp] theorem State.outbox_withPort (s : State) (x : HostPort) :
    (s.withPort x).outbox = s.outbox := rfl
@[simp] theorem State.timer_withPort (s : State) (x : HostPort) :
    (s.withPort x).timer = s.timer := rfl
@[simp] theorem State.map_withPort (s : State) (x : HostPort) :
    (s.withPort x).map = s.map := rfl
@[simp] theorem State.peers_withPort (s : State) (x : HostPort) :
    (s.withPort x).peers = s.peers := rfl
@[simp] theorem State.member_withPort (s : State) (x : HostPort) :
    (s.withPort x).member = s.member := rfl
@[simp] theorem State.demands_withPort (s : State) (x : HostPort) :
    (s.withPort x).demands = s.demands := rfl
@[simp] theorem State.planner_withPort (s : State) (x : HostPort) :
    (s.withPort x).planner = s.planner := rfl
@[simp] theorem State.holdings_withPort (s : State) (x : HostPort) :
    (s.withPort x).holdings = s.holdings := rfl
@[simp] theorem State.sag_withPort (s : State) (x : HostPort) :
    (s.withPort x).sag = s.sag := rfl
@[simp] theorem State.output_withPort (s : State) (x : HostPort) :
    (s.withPort x).output = s.output := rfl
@[simp] theorem State.port_withPort (s : State) (x : HostPort) :
    (s.withPort x).port = x := rfl
@[simp] theorem State.notes_withPort (s : State) (x : HostPort) :
    (s.withPort x).notes = s.notes := rfl
@[simp] theorem State.snap_withPort (s : State) (x : HostPort) :
    (s.withPort x).snap = s.snap := rfl

@[simp] theorem State.pending_withNotes (s : State) (x : NotificationQueue) :
    (s.withNotes x).pending = s.pending := rfl
@[simp] theorem State.rstn_withNotes (s : State) (x : NotificationQueue) :
    (s.withNotes x).rstn = s.rstn := rfl
@[simp] theorem State.id_withNotes (s : State) (x : NotificationQueue) :
    (s.withNotes x).id = s.id := rfl
@[simp] theorem State.setup_withNotes (s : State) (x : NotificationQueue) :
    (s.withNotes x).setup = s.setup := rfl
@[simp] theorem State.line_withNotes (s : State) (x : NotificationQueue) :
    (s.withNotes x).line = s.line := rfl
@[simp] theorem State.outbox_withNotes (s : State) (x : NotificationQueue) :
    (s.withNotes x).outbox = s.outbox := rfl
@[simp] theorem State.timer_withNotes (s : State) (x : NotificationQueue) :
    (s.withNotes x).timer = s.timer := rfl
@[simp] theorem State.map_withNotes (s : State) (x : NotificationQueue) :
    (s.withNotes x).map = s.map := rfl
@[simp] theorem State.peers_withNotes (s : State) (x : NotificationQueue) :
    (s.withNotes x).peers = s.peers := rfl
@[simp] theorem State.member_withNotes (s : State) (x : NotificationQueue) :
    (s.withNotes x).member = s.member := rfl
@[simp] theorem State.demands_withNotes (s : State) (x : NotificationQueue) :
    (s.withNotes x).demands = s.demands := rfl
@[simp] theorem State.planner_withNotes (s : State) (x : NotificationQueue) :
    (s.withNotes x).planner = s.planner := rfl
@[simp] theorem State.holdings_withNotes (s : State) (x : NotificationQueue) :
    (s.withNotes x).holdings = s.holdings := rfl
@[simp] theorem State.sag_withNotes (s : State) (x : NotificationQueue) :
    (s.withNotes x).sag = s.sag := rfl
@[simp] theorem State.output_withNotes (s : State) (x : NotificationQueue) :
    (s.withNotes x).output = s.output := rfl
@[simp] theorem State.port_withNotes (s : State) (x : NotificationQueue) :
    (s.withNotes x).port = s.port := rfl
@[simp] theorem State.notes_withNotes (s : State) (x : NotificationQueue) :
    (s.withNotes x).notes = x := rfl
@[simp] theorem State.snap_withNotes (s : State) (x : NotificationQueue) :
    (s.withNotes x).snap = s.snap := rfl

@[simp] theorem State.pending_withSnap (s : State) (x : SnapshotBuffer) :
    (s.withSnap x).pending = s.pending := rfl
@[simp] theorem State.rstn_withSnap (s : State) (x : SnapshotBuffer) :
    (s.withSnap x).rstn = s.rstn := rfl
@[simp] theorem State.id_withSnap (s : State) (x : SnapshotBuffer) :
    (s.withSnap x).id = s.id := rfl
@[simp] theorem State.setup_withSnap (s : State) (x : SnapshotBuffer) :
    (s.withSnap x).setup = s.setup := rfl
@[simp] theorem State.line_withSnap (s : State) (x : SnapshotBuffer) :
    (s.withSnap x).line = s.line := rfl
@[simp] theorem State.outbox_withSnap (s : State) (x : SnapshotBuffer) :
    (s.withSnap x).outbox = s.outbox := rfl
@[simp] theorem State.timer_withSnap (s : State) (x : SnapshotBuffer) :
    (s.withSnap x).timer = s.timer := rfl
@[simp] theorem State.map_withSnap (s : State) (x : SnapshotBuffer) :
    (s.withSnap x).map = s.map := rfl
@[simp] theorem State.peers_withSnap (s : State) (x : SnapshotBuffer) :
    (s.withSnap x).peers = s.peers := rfl
@[simp] theorem State.member_withSnap (s : State) (x : SnapshotBuffer) :
    (s.withSnap x).member = s.member := rfl
@[simp] theorem State.demands_withSnap (s : State) (x : SnapshotBuffer) :
    (s.withSnap x).demands = s.demands := rfl
@[simp] theorem State.planner_withSnap (s : State) (x : SnapshotBuffer) :
    (s.withSnap x).planner = s.planner := rfl
@[simp] theorem State.holdings_withSnap (s : State) (x : SnapshotBuffer) :
    (s.withSnap x).holdings = s.holdings := rfl
@[simp] theorem State.sag_withSnap (s : State) (x : SnapshotBuffer) :
    (s.withSnap x).sag = s.sag := rfl
@[simp] theorem State.output_withSnap (s : State) (x : SnapshotBuffer) :
    (s.withSnap x).output = s.output := rfl
@[simp] theorem State.port_withSnap (s : State) (x : SnapshotBuffer) :
    (s.withSnap x).port = s.port := rfl
@[simp] theorem State.notes_withSnap (s : State) (x : SnapshotBuffer) :
    (s.withSnap x).notes = s.notes := rfl
@[simp] theorem State.snap_withSnap (s : State) (x : SnapshotBuffer) :
    (s.withSnap x).snap = x := rfl

end Sys2Proof.Machine
end

