-- ==== Sys2Proof/Laws/HostPort.lean ====
section
/-!
SUPPORT. The Host Port: what a transaction can do, said once for every host command, and the row that a first
byte names.
-/

namespace Sys2Proof.Machine

/-- A row of Table 10-7 is the one that its code names. -/
theorem commandOf_row (f : HostFrame) (row : Instr × Byte × Nat) (h : row ∈ hostCommands f) :
    commandOf f = some row.1 ↔ f.code = some row.2.1 := by
  unfold commandOf
  cases hc : f.code with
  | none => simp
  | some code =>
    simp only [Option.map_some, Option.some.injEq]
    constructor
    · intro he
      simp only [hostCommands, List.mem_cons, List.not_mem_nil, or_false] at h
      rcases h with rfl | rfl | rfl | rfl | rfl | rfl | rfl | rfl | rfl | rfl | rfl | rfl | rfl | rfl <;>
        (split at he <;> simp_all; exact BitVec.eq_of_toNat_eq (by simpa using ‹code.toNat = _›))
    · rintro rfl
      simp only [hostCommands, List.mem_cons, List.not_mem_nil, or_false] at h
      rcases h with rfl | rfl | rfl | rfl | rfl | rfl | rfl | rfl | rfl | rfl | rfl | rfl | rfl | rfl <;> rfl

/-- Everything the rise of CSN at the end of a transaction can do (R148, R150). -/
theorem State.transaction_cases (row : Instr) (f : HostFrame) (judged : State → State) (s : State) :
    (s.rstn = false ∧ s.port.abandoned = true ∧
      s.transaction row f judged = s.withPort { s.port with abandoned := false }) ∨
    (s.rstn = false ∧ s.port.abandoned = false ∧ commandOf f = some row ∧
      s.transaction row f judged = judged s) ∨
    s.transaction row f judged = s := by
  unfold State.transaction State.unlessHeld
  cases hr : s.rstn
  · cases ha : s.port.abandoned
    · by_cases hc : commandOf f = some row
      · exact .inr (.inl ⟨rfl, rfl, hc, by simp [ha, hc]⟩)
      · exact .inr (.inr (by simp [ha, hc]))
    · exact .inl ⟨rfl, rfl, by simp [ha]⟩
  · exact .inr (.inr (by simp))

/-- A transaction that the Host Port takes, and that names the row, is judged. -/
theorem State.transaction_of_ready {s : State} {row : Instr} {f : HostFrame} (judged : State → State)
    (h : s.Ready) (hc : commandOf f = some row) : s.transaction row f judged = judged s := by
  unfold State.transaction State.unlessHeld
  simp [h.1, h.2, hc]

/-- A transaction that fits its row's command is executed by it (R150). -/
theorem State.command_of_fits {s : State} {f : HostFrame} {row : Instr × Byte × Nat} (run : State → State)
    (hs : s.Ready) (hr : row ∈ hostCommands f) (hf : Fits f row.2.1 row.2.2) :
    s.command row.1 row.2.1 row.2.2 f run = run s := by
  obtain ⟨hb, hc, hl, hz⟩ := hf
  unfold State.command
  rw [State.transaction_of_ready _ hs ((commandOf_row f row hr).2 hc)]
  have : badFrame row.2.2 f = false := by
    simp only [badFrame, HostFrame.ragged, HostFrame.fields, Bool.or_eq_false_iff, List.any_eq_false]
    exact ⟨⟨decide_eq_false (Nat.not_lt.2 hl), by simpa using hb⟩, fun b hm => by simp [hz b hm]⟩
  simp [this]

end Sys2Proof.Machine
end

