-- ==== Sys2Proof/Laws/Line.lean ====
section
/-!
SUPPORT. The Line Controller: what the Outbox takes into flight, where an attempt may begin, and what a running
BREAK holds off, each said once.
-/

namespace Sys2Proof.Machine

/-- The waiting notice that the Outbox takes into flight is the one on offer (R144, R26, R42, R98). -/
theorem State.nextNotice_spec {s : State} {n : Notice} {rest : Outbox} :
    s.nextNotice = some (n, rest) ↔ s.Offers n rest := by
  have held : ∀ x : SlotSet, (∀ k, slotIn x k = listsLive (s.map.get k) s.id) ↔ x = s.map.heldBy s.id :=
    fun x => ⟨fun h => SlotSet.ext_slots fun k => by simp [h], fun h k => by simp [h]⟩
  have prio : s.priority = (s.demands.head?.map Demand.priority).getD 0 := by
    unfold State.priority
    cases s.demands <;> rfl
  unfold State.nextNotice State.Offers
  simp only [held, prio, exists_eq_left]
  split
  · grind
  · have hm : s.outbox.mark = none ∨ s.member.station ≠ .member := by
      cases hk : s.outbox.mark <;> grind
    have hn : ¬ ∃ k, s.outbox.mark = some k ∧ s.member.station = .member ∧ (rest = { s.outbox with mark := none } ∧
        n = .mark ⟨k, s.cfg.slotLength, s.cfg.budget, s.cfg.deratedBudget, s.cfg.period, s.cfg.expiry, s.cfg.quorum,
          s.cfg.derateHold, s.sag.derateRemaining - 1⟩) := by grind
    simp only [hm, hn, true_and, false_or]
    repeat' split
    all_goals grind

/-- Nothing is taken into flight exactly where nothing is on offer. -/
theorem State.nextNotice_none {s : State} : s.nextNotice = none ↔ ∀ n rest, ¬ s.Offers n rest := by
  simp only [← State.nextNotice_spec]
  rcases s.nextNotice with _ | ⟨n, rest⟩ <;> simp

/-- The line is free exactly where the receiver counts idle time and no attempt of this station is open. -/
theorem LineController.free_iff (l : LineController) :
    l.free = true ↔ l.rx = .idle ∧ l.tx = .silent ∧ l.broken = none := by
  simp [LineController.free, and_assoc]

/-- While the station's own BREAK runs, nothing that waits for its end happens. -/
@[simp] theorem State.unlessBreaking_of_breaking {s : State} {b : Bool} (f : State → State)
    (h : s.line.tx = .breaking b) : s.unlessBreaking f = s := by
  simp [State.unlessBreaking, h]

/-- With no BREAK of its own, the station goes on. -/
@[simp] theorem State.unlessBreaking_of_not_breaking {s : State} (f : State → State)
    (h : ∀ b, s.line.tx ≠ .breaking b) : s.unlessBreaking f = f s := by
  unfold State.unlessBreaking
  split
  · exact absurd ‹_› (h _)
  · rfl

end Sys2Proof.Machine
end

