-- ==== Sys2Proof/Laws/Ops.lean ====
section
/-!
SUPPORT. The shared operations: what each does, as a chain of block updates where that is short, and for each a
frame lemma with every block that it leaves alone.
-/

namespace Sys2Proof.Machine

/-! ### Notification Queue -/

/-- Queueing a record changes the Notification Queue alone, and never past its capacity (R154). -/
theorem State.note_spec (b : NoteBody) (s : State) :
    ∃ q, s.note b = s.withNotes q ∧
      (s.notes.records.length ≤ Config.noteCapacity → q.records.length ≤ Config.noteCapacity) ∧
      (∀ r ∈ s.notes.records, r ∈ q.records) ∧
      (s.notes.overflow = true → q.overflow = true) ∧
      ((⟨s.timer.cycle, b⟩ : Note) ∈ q.records ∨ q.overflow = true) := by
  unfold State.note
  split
  · rename_i h
    refine ⟨_, rfl, fun _ => ?_, ?_, fun h => h, ?_⟩
    · simpa using h
    · intro r hr; simp [hr]
    · simp
  · exact ⟨_, rfl, fun h => h, fun _ h => h, fun _ => rfl, .inr rfl⟩

/-- A queue that takes no record stays as it is. -/
@[simp] theorem NotificationQueue.after_nil (q : NotificationQueue) : q.after [] = q := by
  simp [NotificationQueue.after]

/-- Records queued in two runs are queued in one (R154). -/
theorem NotificationQueue.after_append (q : NotificationQueue) (a b : List Note) :
    (q.after a).after b = q.after (a ++ b) := by
  simp only [NotificationQueue.after, List.length_append, List.length_take, List.take_append, Bool.or_assoc,
    List.append_assoc, NotificationQueue.mk.injEq]
  constructor
  · congr 3
    omega
  · congr 1
    rw [← Bool.decide_or, decide_eq_decide]
    omega

/-- Queueing one record (R154). -/
theorem State.note_after (b : NoteBody) (s : State) :
    s.note b = s.withNotes (s.notes.after [⟨s.timer.cycle, b⟩]) := by
  unfold State.note NotificationQueue.after
  split
  · rename_i h
    have : 1 ≤ Config.noteCapacity - s.notes.records.length := by omega
    have ht : ([⟨s.timer.cycle, b⟩] : List Note).take (Config.noteCapacity - s.notes.records.length) =
        [⟨s.timer.cycle, b⟩] := List.take_of_length_le (by simpa using this)
    simp only [ht, List.length_singleton]
    congr 2
    simp [Nat.not_lt.2 this]
  · rename_i h
    have : Config.noteCapacity - s.notes.records.length = 0 := by omega
    simp [this]

/-- Queueing several DONE records changes the Notification Queue alone (R73, R84). -/
theorem State.noteDone_spec (code : DoneCode) (ds : List Demand) (s : State) :
    ∃ q, s.noteDone code ds = s.withNotes q ∧
      (s.notes.records.length ≤ Config.noteCapacity → q.records.length ≤ Config.noteCapacity) := by
  unfold State.noteDone
  induction ds generalizing s with
  | nil => exact ⟨s.notes, rfl, fun h => h⟩
  | cons d ds ih =>
    obtain ⟨q, hq, hc, -⟩ := s.note_spec (.done d.tag d.remaining code)
    obtain ⟨q', hq', hc'⟩ := ih (s.note (.done d.tag d.remaining code))
    rw [List.foldl_cons, hq', hq]
    refine ⟨q', rfl, fun h => hc' ?_⟩
    rw [hq]
    exact hc h

/-- A SHORT record, with the flag cleared, changes records and demands alone (R91). -/
theorem State.short_spec (c : ShortCause) (s : State) :
    ∃ q, s.short c = (s.withNotes q).withDemands (clearServed s.demands) ∧
      (s.notes.records.length ≤ Config.noteCapacity → q.records.length ≤ Config.noteCapacity) := by
  unfold State.short
  split
  · rename_i h
    exact ⟨s.notes, by rw [h]; simp [clearServed, State.withNotes, State.withDemands, ← h], fun h => h⟩
  · rename_i d ds h
    split
    · obtain ⟨q, hq, hc, -⟩ := s.note_spec (.short d.tag s.activeCount c)
      exact ⟨q, by rw [hq], hc⟩
    · rename_i hd
      refine ⟨s.notes, ?_, fun h => h⟩
      have : clearServed s.demands = s.demands := by
        rw [h]
        simp only [clearServed, List.cons.injEq, and_true]
        cases d
        simp_all
      rw [this]
      rfl

theorem State.shortIfBelow_spec (c : ShortCause) (s : State) :
    ∃ q ds, s.shortIfBelow c = (s.withNotes q).withDemands ds ∧
      (ds = s.demands ∨ ds = clearServed s.demands) ∧
      (s.notes.records.length ≤ Config.noteCapacity → q.records.length ≤ Config.noteCapacity) := by
  unfold State.shortIfBelow
  split
  · exact ⟨s.notes, s.demands, rfl, .inl rfl, fun h => h⟩
  · split
    · obtain ⟨q, hq, hc⟩ := s.short_spec c
      exact ⟨q, _, hq, .inr rfl, hc⟩
    · exact ⟨s.notes, s.demands, rfl, .inl rfl, fun h => h⟩

/-- Clearing the head's served flag keeps the tags, wants and floors (R86). -/
theorem clearServed_map {α : Type} (f : Demand → α) (hf : ∀ d b, f { d with served := b } = f d)
    (ds : List Demand) : (clearServed ds).map f = ds.map f := by
  cases ds with
  | nil => rfl
  | cons d ds => simp [clearServed, hf]

@[simp] theorem clearServed_length (ds : List Demand) : (clearServed ds).length = ds.length := by
  cases ds <;> rfl

@[simp] theorem clearServed_clearServed (ds : List Demand) :
    clearServed (clearServed ds) = clearServed ds := by
  cases ds <;> rfl

/-! ### Outbox and planner -/

/-- A waiting CLAIM is withdrawn and its flag cleared; without one nothing changes (R146). -/
theorem State.withdrawClaim_spec (s : State) :
    s.withdrawClaim = (s.withOutbox { s.outbox with claim := none }).withPlanner
      { s.planner with
        claimOutstanding := s.planner.claimOutstanding && s.outbox.claim.isNone
        pickOrder := if s.outbox.claim.isSome then [] else s.planner.pickOrder } := by
  unfold State.withdrawClaim State.endClaim
  cases h : s.outbox.claim with
  | none =>
    have : ({ s.outbox with claim := none } : Outbox) = s.outbox := by rw [← h]
    simp [this, State.withOutbox, State.withPlanner]
  | some x => simp

/-- The yield-hold flag is set and a waiting CLAIM withdrawn (R103). -/
theorem State.setYieldHold_spec (s : State) :
    s.setYieldHold = (s.withOutbox { s.outbox with claim := none }).withPlanner
      { s.planner with
        yieldHold := true
        claimOutstanding := s.planner.claimOutstanding && s.outbox.claim.isNone
        pickOrder := if s.outbox.claim.isSome then [] else s.planner.pickOrder } := by
  unfold State.setYieldHold
  rw [State.withdrawClaim_spec]
  rfl

/-- A RELEASE of no slot queues nothing (Section 10.1). -/
@[simp] theorem Outbox.queueRelease_zero (o : Outbox) : o.queueRelease 0#64 = o := rfl

/-- Queueing a RELEASE changes the waiting RELEASE alone. -/
theorem Outbox.queueRelease_spec (x : SlotSet) (o : Outbox) :
    o.queueRelease x = { o with release := (o.queueRelease x).release } ∧
    (x ≠ 0 → (o.queueRelease x).release = some (o.release.getD 0 ||| x)) := by
  unfold Outbox.queueRelease
  split
  · exact ⟨rfl, fun h => absurd ‹_› h⟩
  · cases h : o.release <;> simp

/-- Queueing a CONTEST changes the waiting CONTEST alone (R145). -/
theorem Outbox.queueContest_spec (t : StationId) (x : SlotSet) (o : Outbox) :
    o.queueContest t x = { o with contest := (o.queueContest t x).contest } := by
  unfold Outbox.queueContest
  split
  · rfl
  · split
    · rfl
    · split <;> rfl

/-- Queueing a MARK changes the waiting MARK alone, and a waiting one stays (R145). -/
theorem Outbox.queueMark_spec (c : CycleNumber) (o : Outbox) :
    o.queueMark c = { o with mark := some (o.mark.getD c) } := by
  unfold Outbox.queueMark
  obtain ⟨m, _, _, _, _, _, _, _⟩ := o
  cases m <;> rfl

/-! ### Output and Holding List -/

/-- Following the Holding List changes the output alone. -/
theorem State.syncOutput_spec (s : State) : ∃ o, s.syncOutput = s.withOutput o ∧
    (s.output.phase ≠ .on → o = s.output) ∧
    (∀ k t, s.timer.phase = .inSlot k t → s.output.phase = .on →
      o = if s.activeAt k = false then ⟨.idle, false⟩
        else if s.output.carry = true ∧ (nextSlot k).any s.activeAt = false then ⟨.tail, false⟩
        else s.output) := by
  unfold State.syncOutput
  split
  · rename_i k t hk
    by_cases hon : s.output.phase = .on
    · simp only [hon, Bool.and_eq_true, Bool.not_eq_true', ↓reduceIte]
      by_cases ha : s.activeAt k = false
      · simp only [ha, ↓reduceIte]
        refine ⟨⟨.idle, false⟩, rfl, fun h => absurd rfl h, ?_⟩
        intro k' t' h' _
        rw [hk] at h'
        cases h'
        simp [ha]
      · simp only [ha]
        by_cases hc : s.output.carry = true ∧ (nextSlot k).any s.activeAt = false
        · simp only [hc, and_self, ↓reduceIte]
          refine ⟨⟨.tail, false⟩, rfl, fun h => absurd rfl h, ?_⟩
          intro k' t' h' _
          rw [hk] at h'
          cases h'
          simp [ha, hc.2]
        · simp only [hc, ↓reduceIte]
          refine ⟨s.output, rfl, fun _ => rfl, ?_⟩
          intro k' t' h' _
          rw [hk] at h'
          cases h'
          simp [ha, hc]
    · simp only [hon, ↓reduceIte]
      exact ⟨s.output, rfl, fun _ => rfl, fun _ _ _ h => absurd h (by simp)⟩
  · rename_i hno
    exact ⟨s.output, rfl, fun _ => rfl, fun k t h => absurd h (hno k t)⟩

/-- Releasing holdings: the entries, one RELEASE for their slots, and the output that follows (R98). -/
theorem State.releaseHoldings_spec (p : SlotIndex → Bool) (s : State) :
    ∃ o, s.releaseHoldings p = ((s.withHoldings (releaseEntries p s.holdings)).withOutbox
      (s.outbox.queueRelease (slotSetOf (s.heldWhere p)))).withOutput o ∧
      (s.output.phase ≠ .on → o = s.output) := by
  unfold State.releaseHoldings State.queueRelease
  obtain ⟨o, ho, hoff, -⟩ := State.syncOutput_spec
    ((s.withHoldings (releaseEntries p s.holdings)).withOutbox
      ((s.withHoldings (releaseEntries p s.holdings)).outbox.queueRelease (slotSetOf (s.heldWhere p))))
  exact ⟨o, ho, hoff⟩

/-- Dropping entries: the entries go and the output follows (R10, R12). -/
theorem State.dropHoldings_spec (p : SlotIndex → Bool) (s : State) :
    ∃ o, s.dropHoldings p = (s.withHoldings (s.holdings.filter fun h => !p h.slot)).withOutput o ∧
      (s.output.phase ≠ .on → o = s.output) := by
  unfold State.dropHoldings
  obtain ⟨o, ho, hoff, -⟩ := State.syncOutput_spec
    (s.withHoldings (s.holdings.filter fun h => !p h.slot))
  exact ⟨o, ho, hoff⟩

/-- A released entry keeps its slot and its place (R88). -/
@[simp] theorem releaseEntries_slots (p : SlotIndex → Bool) (hs : List Holding) :
    (releaseEntries p hs).map Holding.slot = hs.map Holding.slot := by
  simp only [releaseEntries, List.map_map]
  refine List.map_congr_left fun h _ => ?_
  simp only [Function.comp]
  split <;> rfl

/-- A released entry is PENDING or ACTIVE no longer. -/
@[simp] theorem Holding.held_releasing (k : SlotIndex) : Holding.held ⟨k, .releasing⟩ = false := rfl

theorem Holding.held_iff (h : Holding) : h.held = true ↔ h.state ≠ .releasing := by
  obtain ⟨k, st⟩ := h
  cases st <;> simp [Holding.held]

/-- After a release, an entry is PENDING or ACTIVE where it was and its slot was not named. -/
theorem releaseEntries_held (p : SlotIndex → Bool) (hs : List Holding) :
    (releaseEntries p hs).filter Holding.held = hs.filter fun h => h.held && !p h.slot := by
  induction hs with
  | nil => rfl
  | cons h hs ih =>
    have ih' : List.filter Holding.held (List.map (fun h : Holding =>
        if h.held && p h.slot then { h with state := .releasing } else h) hs)
        = hs.filter fun h => h.held && !p h.slot := ih
    rw [releaseEntries, List.map_cons, List.filter_cons, List.filter_cons, ih']
    cases hh : h.held <;> cases hp : p h.slot <;> simp [hh]

/-! ### demote -/

@[simp] theorem demote_nil (k : Nat) : demote k [] = [] := by cases k <;> rfl

theorem demote_releasing (k : Nat) (h : Holding) (hs : List Holding) (hr : h.state = .releasing) :
    demote k (h :: hs) = h :: demote k hs := by
  cases k <;> simp [demote, hr]

theorem demote_zero (h : Holding) (hs : List Holding) (hr : h.state ≠ .releasing) :
    demote 0 (h :: hs) = { h with state := .releasing } :: demote 0 hs := by
  simp [demote, hr]

theorem demote_succ (k : Nat) (h : Holding) (hs : List Holding) (hr : h.state ≠ .releasing) :
    demote (k + 1) (h :: hs) = h :: demote k hs := by
  simp [demote, hr]

/-- Making RELEASING all but the first `k` keeps every slot in its place (R86, R88). -/
@[simp] theorem demote_slots (k : Nat) (hs : List Holding) :
    (demote k hs).map Holding.slot = hs.map Holding.slot := by
  induction hs generalizing k with
  | nil => simp
  | cons h hs ih =>
    by_cases hr : h.state = .releasing
    · simp [demote_releasing k h hs hr, ih]
    · cases k with
      | zero => simp [demote_zero h hs hr, ih]
      | succ k => simp [demote_succ k h hs hr, ih]

/-- The surplus of a head change, in the terms of the statements (R86). -/
theorem State.releaseSurplus_entries (k : Nat) (s : State) (hn : (s.holdings.map Holding.slot).Nodup) :
    releaseEntries (fun i => (s.heldSlots.drop k).contains i) s.holdings = demote k s.holdings := by
  suffices ∀ (hs : List Holding) (k : Nat), (hs.map Holding.slot).Nodup →
      releaseEntries (fun i => (((hs.filter Holding.held).map Holding.slot).drop k).contains i) hs
        = demote k hs from this s.holdings k hn
  intro hs
  induction hs with
  | nil => intro k _; rfl
  | cons h hs ih =>
    intro k hnd
    rw [List.map_cons, List.nodup_cons] at hnd
    obtain ⟨hmem, hnd⟩ := hnd
    have key : ∀ (l m : List SlotIndex), (∀ g ∈ hs, l.contains g.slot = m.contains g.slot) →
        releaseEntries (fun i => l.contains i) hs = releaseEntries (fun i => m.contains i) hs := by
      intro l m hlm
      unfold releaseEntries
      refine List.map_congr_left fun g hg => ?_
      simp only [hlm g hg]
    by_cases hr : h.state = .releasing
    · have hh : h.held = false := by simp [← Bool.not_eq_true, Holding.held_iff, hr]
      rw [demote_releasing k h hs hr, List.filter_cons_of_neg (by simp [hh]), ← ih k hnd]
      simp [releaseEntries, hh]
    · have hh : h.held = true := h.held_iff.2 hr
      rw [List.filter_cons_of_pos hh, List.map_cons]
      cases k with
      | zero =>
        rw [demote_zero h hs hr, ← ih 0 hnd]
        have := key (h.slot :: (hs.filter Holding.held).map Holding.slot)
          ((hs.filter Holding.held).map Holding.slot) (by
            intro g hg
            have : g.slot ≠ h.slot := fun e => hmem (e ▸ List.mem_map_of_mem hg)
            simp [this])
        rw [List.drop_zero, List.drop_zero, ← this]
        simp [releaseEntries, hh]
      | succ k =>
        rw [demote_succ k h hs hr, List.drop_succ_cons, ← ih k hnd]
        have hnot : (((hs.filter Holding.held).map Holding.slot).drop k).contains h.slot = false := by
          rw [List.contains_eq_mem, decide_eq_false_iff_not]
          intro hc
          obtain ⟨g, hg, e⟩ := List.mem_map.1 (List.mem_of_mem_drop hc)
          exact hmem (e ▸ List.mem_map_of_mem (List.mem_filter.1 hg).1)
        have hn' : h.slot ∉ ((hs.filter Holding.held).map Holding.slot).drop k := by
          simpa using hnot
        simp [releaseEntries, hh]
        exact fun hc => absurd (by simpa using hc) hn'

/-! ### Waiting CLAIMs and quorum -/

/-- Fitting a waiting CLAIM changes the waiting CLAIM, its flag and its pick order alone (R99). -/
theorem State.fitClaim_spec (s : State) :
    ∃ x c ks, s.fitClaim = (s.withOutbox { s.outbox with claim := x }).withPlanner
      { s.planner with claimOutstanding := c, pickOrder := ks } ∧
      (s.outbox.claim = none → x = none ∧ c = s.planner.claimOutstanding ∧ ks = s.planner.pickOrder) := by
  unfold State.fitClaim
  split
  · rename_i hc
    have hno : s.outbox.claim = none → False := by
      intro h; simp [h] at hc
    dsimp only
    split
    · rw [State.withdrawClaim_spec]
      exact ⟨_, _, _, rfl, fun h => (hno h).elim⟩
    · split
      · exact ⟨_, s.planner.claimOutstanding, _, rfl, fun h => (hno h).elim⟩
      · exact ⟨s.outbox.claim, _, _, rfl, fun h => (hno h).elim⟩
  · exact ⟨s.outbox.claim, _, _, rfl, fun h => ⟨h, rfl, rfl⟩⟩

/-! ### Frames

One lemma per shared operation: every block that it leaves alone. -/

/-- Queueing a record changes the Notification Queue alone (R154). -/
@[simp] theorem State.note_frame (b : NoteBody) (s : State) :
    (s.note b).pending = s.pending ∧
    (s.note b).rstn = s.rstn ∧
    (s.note b).id = s.id ∧
    (s.note b).setup = s.setup ∧
    (s.note b).line = s.line ∧
    (s.note b).outbox = s.outbox ∧
    (s.note b).timer = s.timer ∧
    (s.note b).map = s.map ∧
    (s.note b).peers = s.peers ∧
    (s.note b).member = s.member ∧
    (s.note b).demands = s.demands ∧
    (s.note b).planner = s.planner ∧
    (s.note b).holdings = s.holdings ∧
    (s.note b).sag = s.sag ∧
    (s.note b).output = s.output ∧
    (s.note b).port = s.port ∧
    (s.note b).snap = s.snap := by
  unfold State.note
  split <;> simp

/-- Queueing a STATE record changes the Notification Queue alone (R80). -/
@[simp] theorem State.noteState_frame (c : Cause) (s : State) :
    (s.noteState c).pending = s.pending ∧
    (s.noteState c).rstn = s.rstn ∧
    (s.noteState c).id = s.id ∧
    (s.noteState c).setup = s.setup ∧
    (s.noteState c).line = s.line ∧
    (s.noteState c).outbox = s.outbox ∧
    (s.noteState c).timer = s.timer ∧
    (s.noteState c).map = s.map ∧
    (s.noteState c).peers = s.peers ∧
    (s.noteState c).member = s.member ∧
    (s.noteState c).demands = s.demands ∧
    (s.noteState c).planner = s.planner ∧
    (s.noteState c).holdings = s.holdings ∧
    (s.noteState c).sag = s.sag ∧
    (s.noteState c).output = s.output ∧
    (s.noteState c).port = s.port ∧
    (s.noteState c).snap = s.snap := by
  unfold State.noteState
  simp

/-- Queueing DONE records changes the Notification Queue alone (R73, R84). -/
@[simp] theorem State.noteDone_frame (code : DoneCode) (ds : List Demand) (s : State) :
    (s.noteDone code ds).pending = s.pending ∧
    (s.noteDone code ds).rstn = s.rstn ∧
    (s.noteDone code ds).id = s.id ∧
    (s.noteDone code ds).setup = s.setup ∧
    (s.noteDone code ds).line = s.line ∧
    (s.noteDone code ds).outbox = s.outbox ∧
    (s.noteDone code ds).timer = s.timer ∧
    (s.noteDone code ds).map = s.map ∧
    (s.noteDone code ds).peers = s.peers ∧
    (s.noteDone code ds).member = s.member ∧
    (s.noteDone code ds).demands = s.demands ∧
    (s.noteDone code ds).planner = s.planner ∧
    (s.noteDone code ds).holdings = s.holdings ∧
    (s.noteDone code ds).sag = s.sag ∧
    (s.noteDone code ds).output = s.output ∧
    (s.noteDone code ds).port = s.port ∧
    (s.noteDone code ds).snap = s.snap := by
  obtain ⟨q, h, -⟩ := s.noteDone_spec code ds
  rw [h]
  simp

/-- SHORT changes the records and the served flag alone (R91). -/
@[simp] theorem State.short_frame (c : ShortCause) (s : State) :
    (s.short c).pending = s.pending ∧
    (s.short c).rstn = s.rstn ∧
    (s.short c).id = s.id ∧
    (s.short c).setup = s.setup ∧
    (s.short c).line = s.line ∧
    (s.short c).outbox = s.outbox ∧
    (s.short c).timer = s.timer ∧
    (s.short c).map = s.map ∧
    (s.short c).peers = s.peers ∧
    (s.short c).member = s.member ∧
    (s.short c).planner = s.planner ∧
    (s.short c).holdings = s.holdings ∧
    (s.short c).sag = s.sag ∧
    (s.short c).output = s.output ∧
    (s.short c).port = s.port ∧
    (s.short c).snap = s.snap := by
  obtain ⟨q, h, -⟩ := s.short_spec c
  rw [h]
  simp

/-- SHORT below the floor changes the records and the served flag alone (R13, R111). -/
@[simp] theorem State.shortIfBelow_frame (c : ShortCause) (s : State) :
    (s.shortIfBelow c).pending = s.pending ∧
    (s.shortIfBelow c).rstn = s.rstn ∧
    (s.shortIfBelow c).id = s.id ∧
    (s.shortIfBelow c).setup = s.setup ∧
    (s.shortIfBelow c).line = s.line ∧
    (s.shortIfBelow c).outbox = s.outbox ∧
    (s.shortIfBelow c).timer = s.timer ∧
    (s.shortIfBelow c).map = s.map ∧
    (s.shortIfBelow c).peers = s.peers ∧
    (s.shortIfBelow c).member = s.member ∧
    (s.shortIfBelow c).planner = s.planner ∧
    (s.shortIfBelow c).holdings = s.holdings ∧
    (s.shortIfBelow c).sag = s.sag ∧
    (s.shortIfBelow c).output = s.output ∧
    (s.shortIfBelow c).port = s.port ∧
    (s.shortIfBelow c).snap = s.snap := by
  unfold State.shortIfBelow
  repeat' split
  all_goals simp

/-- Withdrawing a CLAIM changes the Outbox and the planner alone (R146). -/
@[simp] theorem State.withdrawClaim_frame (s : State) :
    s.withdrawClaim.pending = s.pending ∧
    s.withdrawClaim.rstn = s.rstn ∧
    s.withdrawClaim.id = s.id ∧
    s.withdrawClaim.setup = s.setup ∧
    s.withdrawClaim.line = s.line ∧
    s.withdrawClaim.timer = s.timer ∧
    s.withdrawClaim.map = s.map ∧
    s.withdrawClaim.peers = s.peers ∧
    s.withdrawClaim.member = s.member ∧
    s.withdrawClaim.demands = s.demands ∧
    s.withdrawClaim.holdings = s.holdings ∧
    s.withdrawClaim.sag = s.sag ∧
    s.withdrawClaim.output = s.output ∧
    s.withdrawClaim.port = s.port ∧
    s.withdrawClaim.notes = s.notes ∧
    s.withdrawClaim.snap = s.snap := by
  rw [State.withdrawClaim_spec]
  simp

/-- Setting the yield hold changes the Outbox and the planner alone (R103). -/
@[simp] theorem State.setYieldHold_frame (s : State) :
    s.setYieldHold.pending = s.pending ∧
    s.setYieldHold.rstn = s.rstn ∧
    s.setYieldHold.id = s.id ∧
    s.setYieldHold.setup = s.setup ∧
    s.setYieldHold.line = s.line ∧
    s.setYieldHold.timer = s.timer ∧
    s.setYieldHold.map = s.map ∧
    s.setYieldHold.peers = s.peers ∧
    s.setYieldHold.member = s.member ∧
    s.setYieldHold.demands = s.demands ∧
    s.setYieldHold.holdings = s.holdings ∧
    s.setYieldHold.sag = s.sag ∧
    s.setYieldHold.output = s.output ∧
    s.setYieldHold.port = s.port ∧
    s.setYieldHold.notes = s.notes ∧
    s.setYieldHold.snap = s.snap := by
  rw [State.setYieldHold_spec]
  simp

/-- Following the Holding List changes the output alone (R123, R124). -/
@[simp] theorem State.syncOutput_frame (s : State) :
    s.syncOutput.pending = s.pending ∧
    s.syncOutput.rstn = s.rstn ∧
    s.syncOutput.id = s.id ∧
    s.syncOutput.setup = s.setup ∧
    s.syncOutput.line = s.line ∧
    s.syncOutput.outbox = s.outbox ∧
    s.syncOutput.timer = s.timer ∧
    s.syncOutput.map = s.map ∧
    s.syncOutput.peers = s.peers ∧
    s.syncOutput.member = s.member ∧
    s.syncOutput.demands = s.demands ∧
    s.syncOutput.planner = s.planner ∧
    s.syncOutput.holdings = s.holdings ∧
    s.syncOutput.sag = s.sag ∧
    s.syncOutput.port = s.port ∧
    s.syncOutput.notes = s.notes ∧
    s.syncOutput.snap = s.snap := by
  obtain ⟨o, h, -⟩ := s.syncOutput_spec
  rw [h]
  simp

/-- The start of a slot changes the output alone (R119, R120). -/
@[simp] theorem State.outputSlotStart_frame (s : State) :
    s.outputSlotStart.pending = s.pending ∧
    s.outputSlotStart.rstn = s.rstn ∧
    s.outputSlotStart.id = s.id ∧
    s.outputSlotStart.setup = s.setup ∧
    s.outputSlotStart.line = s.line ∧
    s.outputSlotStart.outbox = s.outbox ∧
    s.outputSlotStart.timer = s.timer ∧
    s.outputSlotStart.map = s.map ∧
    s.outputSlotStart.peers = s.peers ∧
    s.outputSlotStart.member = s.member ∧
    s.outputSlotStart.demands = s.demands ∧
    s.outputSlotStart.planner = s.planner ∧
    s.outputSlotStart.holdings = s.holdings ∧
    s.outputSlotStart.sag = s.sag ∧
    s.outputSlotStart.port = s.port ∧
    s.outputSlotStart.notes = s.notes ∧
    s.outputSlotStart.snap = s.snap := by
  unfold State.outputSlotStart State.outputOff
  repeat' split
  all_goals simp

/-- Releasing holdings changes the Holding List, the Outbox and the output alone (R98). -/
@[simp] theorem State.releaseHoldings_frame (p : SlotIndex → Bool) (s : State) :
    (s.releaseHoldings p).pending = s.pending ∧
    (s.releaseHoldings p).rstn = s.rstn ∧
    (s.releaseHoldings p).id = s.id ∧
    (s.releaseHoldings p).setup = s.setup ∧
    (s.releaseHoldings p).line = s.line ∧
    (s.releaseHoldings p).timer = s.timer ∧
    (s.releaseHoldings p).map = s.map ∧
    (s.releaseHoldings p).peers = s.peers ∧
    (s.releaseHoldings p).member = s.member ∧
    (s.releaseHoldings p).demands = s.demands ∧
    (s.releaseHoldings p).planner = s.planner ∧
    (s.releaseHoldings p).sag = s.sag ∧
    (s.releaseHoldings p).port = s.port ∧
    (s.releaseHoldings p).notes = s.notes ∧
    (s.releaseHoldings p).snap = s.snap := by
  obtain ⟨o, h, -⟩ := s.releaseHoldings_spec p
  rw [h]
  simp

/-- Dropping entries changes the Holding List and the output alone (R10, R12). -/
@[simp] theorem State.dropHoldings_frame (p : SlotIndex → Bool) (s : State) :
    (s.dropHoldings p).pending = s.pending ∧
    (s.dropHoldings p).rstn = s.rstn ∧
    (s.dropHoldings p).id = s.id ∧
    (s.dropHoldings p).setup = s.setup ∧
    (s.dropHoldings p).line = s.line ∧
    (s.dropHoldings p).outbox = s.outbox ∧
    (s.dropHoldings p).timer = s.timer ∧
    (s.dropHoldings p).map = s.map ∧
    (s.dropHoldings p).peers = s.peers ∧
    (s.dropHoldings p).member = s.member ∧
    (s.dropHoldings p).demands = s.demands ∧
    (s.dropHoldings p).planner = s.planner ∧
    (s.dropHoldings p).sag = s.sag ∧
    (s.dropHoldings p).port = s.port ∧
    (s.dropHoldings p).notes = s.notes ∧
    (s.dropHoldings p).snap = s.snap := by
  obtain ⟨o, h, -⟩ := s.dropHoldings_spec p
  rw [h]
  simp

/-- Releasing a surplus changes the Holding List, the Outbox and the output alone (R86, R100). -/
@[simp] theorem State.releaseSurplus_frame (k : Nat) (s : State) :
    (s.releaseSurplus k).pending = s.pending ∧
    (s.releaseSurplus k).rstn = s.rstn ∧
    (s.releaseSurplus k).id = s.id ∧
    (s.releaseSurplus k).setup = s.setup ∧
    (s.releaseSurplus k).line = s.line ∧
    (s.releaseSurplus k).timer = s.timer ∧
    (s.releaseSurplus k).map = s.map ∧
    (s.releaseSurplus k).peers = s.peers ∧
    (s.releaseSurplus k).member = s.member ∧
    (s.releaseSurplus k).demands = s.demands ∧
    (s.releaseSurplus k).planner = s.planner ∧
    (s.releaseSurplus k).sag = s.sag ∧
    (s.releaseSurplus k).port = s.port ∧
    (s.releaseSurplus k).notes = s.notes ∧
    (s.releaseSurplus k).snap = s.snap := by
  unfold State.releaseSurplus
  simp

/-- Fitting a waiting CLAIM changes the Outbox and the planner alone (R99). -/
@[simp] theorem State.fitClaim_frame (s : State) :
    s.fitClaim.pending = s.pending ∧
    s.fitClaim.rstn = s.rstn ∧
    s.fitClaim.id = s.id ∧
    s.fitClaim.setup = s.setup ∧
    s.fitClaim.line = s.line ∧
    s.fitClaim.timer = s.timer ∧
    s.fitClaim.map = s.map ∧
    s.fitClaim.peers = s.peers ∧
    s.fitClaim.member = s.member ∧
    s.fitClaim.demands = s.demands ∧
    s.fitClaim.holdings = s.holdings ∧
    s.fitClaim.sag = s.sag ∧
    s.fitClaim.output = s.output ∧
    s.fitClaim.port = s.port ∧
    s.fitClaim.notes = s.notes ∧
    s.fitClaim.snap = s.snap := by
  unfold State.fitClaim
  dsimp only
  repeat' split
  all_goals simp

/-- A head change reaches no further than this (R86). -/
@[simp] theorem State.headChange_frame (s : State) :
    s.headChange.pending = s.pending ∧
    s.headChange.rstn = s.rstn ∧
    s.headChange.id = s.id ∧
    s.headChange.setup = s.setup ∧
    s.headChange.line = s.line ∧
    s.headChange.timer = s.timer ∧
    s.headChange.map = s.map ∧
    s.headChange.peers = s.peers ∧
    s.headChange.member = s.member ∧
    s.headChange.sag = s.sag ∧
    s.headChange.port = s.port ∧
    s.headChange.notes = s.notes ∧
    s.headChange.snap = s.snap := by
  unfold State.headChange
  simp

/-- The completion of the head reaches no further than this (R92). -/
@[simp] theorem State.completeDemand_frame (s : State) :
    s.completeDemand.pending = s.pending ∧
    s.completeDemand.rstn = s.rstn ∧
    s.completeDemand.id = s.id ∧
    s.completeDemand.setup = s.setup ∧
    s.completeDemand.line = s.line ∧
    s.completeDemand.timer = s.timer ∧
    s.completeDemand.map = s.map ∧
    s.completeDemand.peers = s.peers ∧
    s.completeDemand.member = s.member ∧
    s.completeDemand.sag = s.sag ∧
    s.completeDemand.port = s.port ∧
    s.completeDemand.snap = s.snap := by
  unfold State.completeDemand
  repeat' split
  all_goals simp

/-- The end of a cycle reaches no further than this (R92). -/
@[simp] theorem State.cycleEnd_frame (s : State) :
    s.cycleEnd.pending = s.pending ∧
    s.cycleEnd.rstn = s.rstn ∧
    s.cycleEnd.id = s.id ∧
    s.cycleEnd.setup = s.setup ∧
    s.cycleEnd.line = s.line ∧
    s.cycleEnd.timer = s.timer ∧
    s.cycleEnd.map = s.map ∧
    s.cycleEnd.peers = s.peers ∧
    s.cycleEnd.member = s.member ∧
    s.cycleEnd.sag = s.sag ∧
    s.cycleEnd.port = s.port ∧
    s.cycleEnd.snap = s.snap := by
  unfold State.cycleEnd
  repeat' split
  all_goals simp

/-- Quorum loss reaches no further than this (R77). -/
@[simp] theorem State.quorumLoss_frame (s : State) :
    s.quorumLoss.pending = s.pending ∧
    s.quorumLoss.rstn = s.rstn ∧
    s.quorumLoss.id = s.id ∧
    s.quorumLoss.setup = s.setup ∧
    s.quorumLoss.line = s.line ∧
    s.quorumLoss.timer = s.timer ∧
    s.quorumLoss.peers = s.peers ∧
    s.quorumLoss.member = s.member ∧
    s.quorumLoss.sag = s.sag ∧
    s.quorumLoss.port = s.port ∧
    s.quorumLoss.snap = s.snap := by
  unfold State.quorumLoss State.queueRelease State.outputOff
  dsimp only
  split <;> simp

/-- A change of the live count reaches no further than this (R56). -/
@[simp] theorem State.afterLive_frame (before : Nat) (s : State) :
    (s.afterLive before).pending = s.pending ∧
    (s.afterLive before).rstn = s.rstn ∧
    (s.afterLive before).id = s.id ∧
    (s.afterLive before).setup = s.setup ∧
    (s.afterLive before).line = s.line ∧
    (s.afterLive before).timer = s.timer ∧
    (s.afterLive before).peers = s.peers ∧
    (s.afterLive before).member = s.member ∧
    (s.afterLive before).sag = s.sag ∧
    (s.afterLive before).port = s.port ∧
    (s.afterLive before).snap = s.snap := by
  unfold State.afterLive
  split <;> simp

/-- Expiry reaches no further than this (R51). -/
@[simp] theorem State.expirePeer_frame (p : StationId) (s : State) :
    (s.expirePeer p).pending = s.pending ∧
    (s.expirePeer p).rstn = s.rstn ∧
    (s.expirePeer p).id = s.id ∧
    (s.expirePeer p).setup = s.setup ∧
    (s.expirePeer p).line = s.line ∧
    (s.expirePeer p).timer = s.timer ∧
    (s.expirePeer p).member = s.member ∧
    (s.expirePeer p).sag = s.sag ∧
    (s.expirePeer p).port = s.port ∧
    (s.expirePeer p).snap = s.snap := by
  unfold State.expirePeer
  dsimp only
  split <;> simp

/-- An ABSENT peer's count changes the map and the Peer Table alone (R50). -/
@[simp] theorem State.orphanAbsent_frame (p : StationId) (s : State) :
    (s.orphanAbsent p).pending = s.pending ∧
    (s.orphanAbsent p).rstn = s.rstn ∧
    (s.orphanAbsent p).id = s.id ∧
    (s.orphanAbsent p).setup = s.setup ∧
    (s.orphanAbsent p).line = s.line ∧
    (s.orphanAbsent p).outbox = s.outbox ∧
    (s.orphanAbsent p).timer = s.timer ∧
    (s.orphanAbsent p).member = s.member ∧
    (s.orphanAbsent p).demands = s.demands ∧
    (s.orphanAbsent p).planner = s.planner ∧
    (s.orphanAbsent p).holdings = s.holdings ∧
    (s.orphanAbsent p).sag = s.sag ∧
    (s.orphanAbsent p).output = s.output ∧
    (s.orphanAbsent p).port = s.port ∧
    (s.orphanAbsent p).notes = s.notes ∧
    (s.orphanAbsent p).snap = s.snap := by
  unfold State.orphanAbsent
  dsimp only
  split <;> simp

/-- What a station drops as it leaves the line (R68, R72). -/
@[simp] theorem State.dropOut_frame (s : State) :
    s.dropOut.pending = s.pending ∧
    s.dropOut.rstn = s.rstn ∧
    s.dropOut.id = s.id ∧
    s.dropOut.setup = s.setup ∧
    s.dropOut.line = s.line ∧
    s.dropOut.timer = s.timer ∧
    s.dropOut.member = s.member ∧
    s.dropOut.port = s.port ∧
    s.dropOut.notes = s.notes ∧
    s.dropOut.snap = s.snap := by
  unfold State.dropOut State.outputOff
  simp

/-- Entry to LAPSED (R68). -/
@[simp] theorem State.enterLapsed_frame (c : Cause) (s : State) :
    (s.enterLapsed c).pending = s.pending ∧
    (s.enterLapsed c).rstn = s.rstn ∧
    (s.enterLapsed c).id = s.id ∧
    (s.enterLapsed c).setup = s.setup ∧
    (s.enterLapsed c).port = s.port ∧
    (s.enterLapsed c).snap = s.snap := by
  unfold State.enterLapsed
  simp

/-- Entry to FAULTED (R72). -/
@[simp] theorem State.enterFaulted_frame (c : Cause) (s : State) :
    (s.enterFaulted c).pending = s.pending ∧
    (s.enterFaulted c).rstn = s.rstn ∧
    (s.enterFaulted c).id = s.id ∧
    (s.enterFaulted c).setup = s.setup ∧
    (s.enterFaulted c).port = s.port ∧
    (s.enterFaulted c).snap = s.snap := by
  unfold State.enterFaulted
  simp

/-- Entry to JOINING (R63, R69). -/
@[simp] theorem State.enterJoining_frame (s : State) :
    s.enterJoining.pending = s.pending ∧
    s.enterJoining.rstn = s.rstn ∧
    s.enterJoining.id = s.id ∧
    s.enterJoining.setup = s.setup ∧
    s.enterJoining.map = s.map ∧
    s.enterJoining.peers = s.peers ∧
    s.enterJoining.demands = s.demands ∧
    s.enterJoining.planner = s.planner ∧
    s.enterJoining.holdings = s.holdings ∧
    s.enterJoining.sag = s.sag ∧
    s.enterJoining.output = s.output ∧
    s.enterJoining.port = s.port ∧
    s.enterJoining.snap = s.snap := by
  unfold State.enterJoining State.queuePresence
  simp

/-- Joining completion (R65, R29). -/
@[simp] theorem State.becomeMember_frame (s : State) :
    s.becomeMember.pending = s.pending ∧
    s.becomeMember.rstn = s.rstn ∧
    s.becomeMember.id = s.id ∧
    s.becomeMember.setup = s.setup ∧
    s.becomeMember.line = s.line ∧
    s.becomeMember.map = s.map ∧
    s.becomeMember.peers = s.peers ∧
    s.becomeMember.demands = s.demands ∧
    s.becomeMember.planner = s.planner ∧
    s.becomeMember.holdings = s.holdings ∧
    s.becomeMember.sag = s.sag ∧
    s.becomeMember.output = s.output ∧
    s.becomeMember.port = s.port ∧
    s.becomeMember.snap = s.snap := by
  unfold State.becomeMember State.queueMark
  dsimp only
  split <;> simp

/-- Joining completion where it is due (R65). -/
@[simp] theorem State.joinIfDone_frame (s : State) :
    s.joinIfDone.pending = s.pending ∧
    s.joinIfDone.rstn = s.rstn ∧
    s.joinIfDone.id = s.id ∧
    s.joinIfDone.setup = s.setup ∧
    s.joinIfDone.line = s.line ∧
    s.joinIfDone.map = s.map ∧
    s.joinIfDone.peers = s.peers ∧
    s.joinIfDone.demands = s.demands ∧
    s.joinIfDone.planner = s.planner ∧
    s.joinIfDone.holdings = s.holdings ∧
    s.joinIfDone.sag = s.sag ∧
    s.joinIfDone.output = s.output ∧
    s.joinIfDone.port = s.port ∧
    s.joinIfDone.snap = s.snap := by
  unfold State.joinIfDone
  split <;> simp

/-- The end of LEAVING (R74). -/
@[simp] theorem State.endLeaving_frame (s : State) :
    s.endLeaving.pending = s.pending ∧
    s.endLeaving.rstn = s.rstn ∧
    s.endLeaving.id = s.id ∧
    s.endLeaving.setup = s.setup ∧
    s.endLeaving.demands = s.demands ∧
    s.endLeaving.planner = s.planner ∧
    s.endLeaving.holdings = s.holdings ∧
    s.endLeaving.output = s.output ∧
    s.endLeaving.port = s.port ∧
    s.endLeaving.snap = s.snap := by
  unfold State.endLeaving
  simp

/-- Passing time changes timers alone (R22). -/
@[simp] theorem State.pass_frame (n : Nat) (s : State) :
    (s.pass n).pending = s.pending ∧
    (s.pass n).rstn = s.rstn ∧
    (s.pass n).id = s.id ∧
    (s.pass n).setup = s.setup ∧
    (s.pass n).outbox = s.outbox ∧
    (s.pass n).map = s.map ∧
    (s.pass n).peers = s.peers ∧
    (s.pass n).demands = s.demands ∧
    (s.pass n).planner = s.planner ∧
    (s.pass n).holdings = s.holdings ∧
    (s.pass n).output = s.output ∧
    (s.pass n).port = s.port ∧
    (s.pass n).notes = s.notes ∧
    (s.pass n).snap = s.snap := by
  unfold State.pass
  simp

/-! ### Live counts -/

/-- A change of the live count is a quorum loss or nothing (R56). -/
theorem State.afterLive_cases (before : Nat) (s : State) :
    s.afterLive before = s ∨ s.afterLive before = s.quorumLoss ∧ s.member.station = .member := by
  unfold State.afterLive
  split
  · exact .inr ⟨rfl, (‹_ ∧ _› : _).1⟩
  · exact .inl rfl

/-! ### Peers -/

/-- Expiry does nothing, or makes the peer ABSENT and its live records orphans before the live count is handed
on (R51). -/
theorem State.expirePeer_cases (p : StationId) (s : State) :
    s.expirePeer p = s ∨
    (s.onLine = true ∧ p ≠ s.id ∧ (s.peers.get p).live = true ∧ s.cfg.expiry ≤ (s.peers.get p).silence ∧
      s.expirePeer p = ((s.withPeers (s.peers.set p { s.peers.get p with live := false, silence := 0 })).withMap
        (s.map.orphan p s.timer.cycle s.cfg.expiry)).afterLive s.liveCount) := by
  unfold State.expirePeer
  dsimp only
  split
  · rename_i h
    exact .inr ⟨h.1, h.2.1, h.2.2.1, h.2.2.2, rfl⟩
  · exact .inl rfl

theorem State.orphanAbsent_cases (p : StationId) (s : State) :
    s.orphanAbsent p = s ∨
    (s.onLine = true ∧ p ≠ s.id ∧ (s.peers.get p).live = false ∧ s.cfg.expiry ≤ (s.peers.get p).silence ∧
      s.orphanAbsent p = (s.withPeers (s.peers.set p { s.peers.get p with silence := 0 })).withMap
        (s.map.orphan p s.timer.cycle s.cfg.expiry)) := by
  unfold State.orphanAbsent
  dsimp only
  split
  · rename_i h
    exact .inr ⟨h.1, h.2.1, h.2.2.1, h.2.2.2, rfl⟩
  · exact .inl rfl

/-! ### Landing of a notice -/

/-- A station hears the frame that ends now exactly where it drives nothing and receives one, or has lapsed in this
very moment (R28, R130). -/
theorem LineController.hearing_iff (l : LineController) :
    l.hearing = true ↔ (l.rx = .frame ∨ l.closing = true) ∧ l.tx = .silent := by
  simp [LineController.hearing, and_comm]

/-- How a completing notice lands, with everything that is known in each case (R136, R141). -/
theorem State.landing_cases (p : StationId) (n : Notice) (s : State) :
    s.landing p n = .unheard ∨
    (s.listens = true ∧ p = s.id ∧ s.line.tx = .sending ∧ s.outbox.inFlight = some n ∧
      s.landing p n = .own s.afterSent) ∨
    (s.listens = true ∧ p = s.id ∧ s.onLine = true ∧ s.line.hearing = true ∧
      noticeWellFormed p n = true ∧ s.landing p n = .duplicate s.afterHeard) ∨
    (s.listens = true ∧ (p ≠ s.id ∨ s.onLine = false) ∧ s.line.hearing = true ∧
      noticeWellFormed p n = true ∧ s.landing p n = .other s.afterHeard) := by
  unfold State.landing
  by_cases hl : s.listens = false
  · exact .inl (if_pos hl)
  rw [if_neg hl]
  have hl' : s.listens = true := by simpa using hl
  by_cases ho : s.sentByThis p n = true
  · rw [if_pos ho]
    have hw := ho
    simp only [State.sentByThis, Bool.and_eq_true, beq_iff_eq] at hw
    exact .inr (.inl ⟨hl', hw.1.1, hw.1.2, hw.2, rfl⟩)
  rw [if_neg ho]
  by_cases hr : s.received p n = true
  · rw [if_pos hr]
    have hw := hr
    simp only [State.received, Bool.and_eq_true] at hw
    by_cases hd : p = s.id ∧ s.onLine = true
    · rw [if_pos hd]
      exact .inr (.inr (.inl ⟨hl', hd.1, hd.2, hw.2, hw.1, rfl⟩))
    · rw [if_neg hd]
      refine .inr (.inr (.inr ⟨hl', ?_, hw.2, hw.1, rfl⟩))
      by_cases hp : p = s.id
      · exact .inr (by simpa [hp] using hd)
      · exact .inl hp
  · exact .inl (if_neg hr)

/-- A notice that this station has not sent is handed to the blocks after the frame's end, but for one under its own
ID in JOINING or MEMBER (R141). -/
theorem State.landing_of_receives {s : State} {p : StationId} {n : Notice} (h : s.Receives p n) :
    s.landing p n = if p = s.id ∧ s.onLine = true then .duplicate s.afterHeard else .other s.afterHeard := by
  obtain ⟨-, hl, hr, htx, hw⟩ := h
  have h1 : s.sentByThis p n = false := by simp [State.sentByThis, htx]
  have h2 : s.received p n = true := by simp [State.received, hw, LineController.hearing_iff, hr, htx]
  unfold State.landing
  rw [if_neg (by simp [hl]), if_neg (by simp [h1]), if_pos h2]
  rfl

/-- A notice heard from another station is handed to the blocks after the frame's end. -/
theorem State.landing_of_hears {s : State} {p : StationId} {n : Notice} (h : s.Hears p n) :
    s.landing p n = .other s.afterHeard := by
  rw [State.landing_of_receives h.1, if_neg (fun hp => h.2 hp.1)]

/-- The own notice is handed to the blocks after its flight has ended. -/
theorem State.landing_of_sends {s : State} {n : Notice} (h : s.Sends n) :
    s.landing s.id n = .own s.afterSent := by
  obtain ⟨-, hl, htx, hf⟩ := h
  have h1 : s.sentByThis s.id n = true := by simp [State.sentByThis, htx, hf]
  unfold State.landing
  rw [if_neg (by simp [hl]), if_pos h1]
  rfl

/-- A notice that completes at this station is handed to the blocks in the state `u`. -/
theorem State.complete_of_completes {s u : State} {p : StationId} {n : Notice} (f : State → State)
    (h : s.Completes p n u) : s.complete p n f f = f u := by
  unfold State.complete
  rcases h with ⟨h, rfl⟩ | ⟨h, rfl, rfl⟩
  · rw [State.landing_of_hears h]
  · rw [State.landing_of_sends h]

/-! ### Time -/

/-- Passing time changes timers alone, and nothing else of the blocks they stand in (R22). -/
theorem State.pass_spec (n : Nat) (s : State) :
    (s.pass n).timer.cycle = s.timer.cycle ∧ (s.pass n).timer.planningDue = s.timer.planningDue ∧
    (s.pass n).member = { s.member with lapseWait := (s.pass n).member.lapseWait } ∧
    (s.pass n).sag = { s.sag with filter := (s.pass n).sag.filter } ∧
    (s.pass n).line = { s.line with
      idleTime := (s.pass n).line.idleTime
      awaitingIdle := (s.pass n).line.awaitingIdle
      closing := (s.pass n).line.closing } := by
  simp [State.pass, State.withLine, State.withSag, State.withMember, State.withTimer]

end Sys2Proof.Machine
end

