-- ==== Sys2Proof/WellFormed.lean ====
section
/-!
DEFINITION. Which commands the world can hand in: a notice that completes carries fields that fit its frame
and that no listener finds malformed (Section 10), and each other operand describes an event that its row
names. A meaning never relies on this: on an ill-formed command the event does not arise and the meaning
leaves the state as it was.
-/

namespace Sys2Proof

open Machine

/-- The check of one command. -/
def Instr.wellFormed : Instr → Bool
  -- a level: every value of the operand can be handed in
  | .powerOn _ | .rstnAsserted | .rstnNegated _ => true
  | .saginChange _ | .sagConditionChange => true
  -- a host transaction is the row that its first byte names (R150); one of no whole byte, which carries no
  -- frame, is handed in as a NOP (assumption 17)
  | .nop f => f.code.isNone || decide (commandOf f = some (.nop f))
  | .setup f => decide (commandOf f = some (.setup f))
  | .enter f => decide (commandOf f = some (.enter f))
  | .leave f => decide (commandOf f = some (.leave f))
  | .restart f => decide (commandOf f = some (.restart f))
  | .demandAppend f => decide (commandOf f = some (.demandAppend f))
  | .demandReplace f => decide (commandOf f = some (.demandReplace f))
  | .withdraw f => decide (commandOf f = some (.withdraw f))
  | .status f => decide (commandOf f = some (.status f))
  | .nextNote f => decide (commandOf f = some (.nextNote f))
  | .snap f => decide (commandOf f = some (.snap f))
  | .snapRead f => decide (commandOf f = some (.snapRead f))
  | .peersRead f => decide (commandOf f = some (.peersRead f))
  | .queueRead f => decide (commandOf f = some (.queueRead f))
  | .unknownCommandCode code f => decide (commandOf f = some (.unknownCommandCode code f))
  -- a completed notice (R164, R165); each part of a mark is named at most once
  | .markComplete p m order => noticeWellFormed p (.mark m) && decide order.Nodup
  | .sagComplete p => noticeWellFormed p .sag
  | .contestComplete p t x => noticeWellFormed p (.contest t x)
  | .releaseComplete p x => noticeWellFormed p (.release x)
  | .leaveComplete p => noticeWellFormed p .leave
  | .presenceComplete p f => noticeWellFormed p (.presence f)
  | .claimComplete p c => noticeWellFormed p (.claim c)
  -- what comes about at this station: no operand to check
  | .peerExpiry _ | .absentPeerOrphaned _ | .orphanCountdownEnd _ _ => true
  | .standingLapse | .joiningCompletion | .windowEnd | .yieldHoldEnd => true
  | .slotBoundary | .planningPoint | .markGapBegin | .demandCompleted | .markTimeout | .founding
  | .lapseWaitEnd | .onPoint | .tailPoint => true
  | .attemptStart | .arbitrationLost | .breakEnd | .lineBreakSeen | .attemptBroken | .transmitFailure
  | .clashFault | .receiveFault => true
  -- one of the errors of R134
  | .receiveError e => isReceiveError e
  -- a bit that was read as it was sent is no mismatch (R139)
  | .readbackMismatch sent read _ => sent != read
  -- the start pulse of another station comes at most a whole idle count early (R131)
  | .frameReceptionBegin early => decide (early ≤ Config.idleTicks)

end Sys2Proof
end

