-- ==== Sys2Proof/Tests/Slice0.lean ====
section
/-!
SUPPORT. The model's own tests. First the well-formedness check with an ill-formed command for each of its
tests; then single steps whose expected results stand in the spec's examples and tables (the section is named
with each); then, for every statement of the certificates, states and operands that meet its hypotheses.
-/

set_option maxRecDepth 100000

namespace Sys2Proof.Tests

open Sys2Proof Sys2Proof.Machine

/-! ### Builders -/

/-- The agreed parameters of Section 1.12 (B = 10, Bd = 6, P = 2, E = 5), with Q = 2 and U = 3. -/
def params : Setup := ⟨40, 10, 6, 2, 5, 2, 3, 3, 8, 1, .shared, .activeHigh⟩

/-- A station with that setup in station state `st`, ID `p`, in slot 3, everything else as after reset. -/
def station (p : StationId) (st : StationState) : State :=
  { State.reset with
    id := p
    setup := some params
    member := { State.reset.member with station := st }
    timer := ⟨.inSlot 3 0, 400, 0, false⟩ }

/-- A quorate MEMBER: station 1 is a LIVE member. -/
def quorateMember (p : StationId) : State :=
  let s := station p .member
  s.withPeers (s.peers.set 1 ⟨true, .member, 4, 1, 0⟩)

/-- The map with the given slots filled, in grant order, with live records. -/
def mapOf (entries : List (SlotIndex × List (StationId × Nat))) : SlotMap :=
  Table.ofFn fun k => (entries.find? fun e => e.1 == k).elim [] fun e => e.2.map fun r => ⟨r.1, r.2, none⟩

/-- The holder lists of some slots, as station and units. -/
def rows (ks : List SlotIndex) (s : State) : List (List (StationId × Nat)) :=
  ks.map fun k => (s.map.get k).map fun r => (r.station, r.units)

/-- The state that one command leads to. -/
def after (c : Instr) (s : State) : State :=
  match exec c s with
  | .next t => t
  | _ => s

/-- The station is receiving a frame. -/
def hearing (s : State) : State := s.withLine { s.line with rx := .frame, tx := .silent }

/-- The station is sending the notice. -/
def sending (n : Notice) (s : State) : State :=
  (s.withLine { s.line with rx := .frame, tx := .sending }).withOutbox { s.outbox with inFlight := some n }

/-- A transaction of whole bytes: the code and what follows it, each byte most significant bit first. -/
def frame (code : Nat) (bytes : List Nat) : HostFrame := ⟨byteBits (code :: bytes)⟩

/-- A MARK with the agreed fields of `params`. -/
def markOf (c : CycleNumber) (derate : Nat) : MarkFields := ⟨c, 40, 10, 6, 2, 5, 2, 3, derate⟩

/-- A demand record. -/
def demand (tag : Byte) (want floor : Nat) (served : Bool) : Demand :=
  ⟨tag, want, floor, 2, .pack, 0, 0, served⟩

/-! ### Well-formedness refuses what no world can hand in -/

theorem test_wf_derate_field_15 : (Instr.markComplete 1 (markOf 0 15) []).wellFormed = false := by decide
theorem test_wf_derate_field_14 : (Instr.markComplete 1 (markOf 0 14) []).wellFormed = true := by decide
theorem test_wf_mark_field_over_a_byte :
    (Instr.markComplete 1 { markOf 0 0 with budget := 256 } []).wellFormed = false := by decide
theorem test_wf_mark_part_named_twice :
    (Instr.markComplete 1 (markOf 0 0) [.silence, .silence]).wellFormed = false := by decide
theorem test_wf_contest_against_its_sender : (Instr.contestComplete 1 1 1).wellFormed = false := by decide
theorem test_wf_contest_of_no_slot : (Instr.contestComplete 1 2 0).wellFormed = false := by decide
theorem test_wf_release_of_no_slot : (Instr.releaseComplete 1 0).wellFormed = false := by decide
theorem test_wf_presence_of_no_units :
    (Instr.presenceComplete 1 ⟨.member, 0, 0, 0⟩).wellFormed = false := by decide
theorem test_wf_joining_presence_with_holdings :
    (Instr.presenceComplete 1 ⟨.joining, 0, 1, 1⟩).wellFormed = false := by decide
theorem test_wf_claim_of_no_units : (Instr.claimComplete 1 ⟨0, 0, 1⟩).wellFormed = false := by decide
theorem test_wf_claim_of_no_slot : (Instr.claimComplete 1 ⟨1, 0, 0⟩).wellFormed = false := by decide
theorem test_wf_no_receive_error : (Instr.receiveError (.edge 160)).wellFormed = false := by decide
theorem test_wf_readback_of_the_bit_sent : (Instr.readbackMismatch true true true).wellFormed = false := by decide
theorem test_wf_start_pulse_too_early : (Instr.frameReceptionBegin 1921).wellFormed = false := by decide
theorem test_wf_known_command_code : (Instr.unknownCommandCode 13 (frame 13 [])).wellFormed = false := by decide
theorem test_wf_frame_of_another_command : (Instr.setup (frame 0x00 [])).wellFormed = false := by decide
theorem test_wf_no_whole_byte : (Instr.enter ⟨[false, true]⟩).wellFormed = false := by decide

/-! ### Frames (Section 10.5) -/

/-- RELEASE {10, 11} of station 9: the key 011 01001, the length 1000, and byte 1 of the set 30h. -/
theorem test_release_bits :
    bodyBits 9 (.release (slotSetOf [10, 11])) =
      [false, true, true, false, true, false, false, true, true, false, false, false]
        ++ byteBits [0, 0x30, 0, 0, 0, 0, 0, 0] := by decide

theorem test_release_bit_times : frameBitTimes (.release (slotSetOf [10, 11])) = 95 := by decide

/-- A listener that read a length of 9 under kind 3 breaks the frame at the twelfth bit. -/
theorem test_wrong_length_is_known_at_bit_12 :
    judge (bitsOf 8 (3 * 32 + 9) ++ bitsOf 4 9) = .badKey := by decide

/-- An all-zero slot set breaks the frame after its payload, before the check bits. -/
theorem test_empty_set_is_known_after_the_payload :
    judge (bitsOf 8 (3 * 32 + 9) ++ bitsOf 4 8 ++ byteBits [0, 0, 0, 0, 0, 0, 0, 0]) = .badPayload := by decide

/-- R133: the well-known remainder of this generator and preset over the digits "123456789". -/
theorem test_check : check (byteBits [0x31, 0x32, 0x33, 0x34, 0x35, 0x36, 0x37, 0x38, 0x39]) = 0x29B1#16 := by
  decide

/-! ### Reset and the host port -/

/-- R61: one STATE record, cause POWER_ON, and the exit cause POWER_ON. -/
theorem test_power_on : (after (.powerOn ⟨9, false⟩) (station 3 .member)).id = 9 ∧
    (after (.powerOn ⟨9, false⟩) (station 3 .member)).notes.records = [⟨0, .state .offline .powerOn 0⟩] := by decide

theorem test_rstn_asserted : (after .rstnAsserted (station 3 .member)).rstn = true ∧
    (after .rstnAsserted (station 3 .member)).notes.records = [] := by decide

theorem test_rstn_negated :
    (after (.rstnNegated ⟨7, false⟩) (after .rstnAsserted (station 3 .member))).id = 7 := by decide

/-- R150: a padding byte of 01h makes the frame BAD_FRAME (Section 10.5). -/
theorem test_bad_padding :
    (after (.snapRead (frame 0x0B [3, 1])) State.reset).port.response.bytes = [0x0B, 0x06] := by decide

theorem test_nop : (after (.nop (frame 0x00 [0, 0])) State.reset).port.response.bytes = [0, 0] := by decide

/-- R149: after the response SDO carries FFh. -/
theorem test_sdo_after_the_response : State.reset.sdo true 2 = 0xFF := by decide

/-- R148: SDO is high-impedance with CSN high, and carries the most significant bit first. -/
theorem test_sdo_bits : State.reset.sdoBit false true 0 = none ∧
    (State.reset.respond 0x85 .badFrame []).sdoBit true true 0 = some true ∧
    (State.reset.respond 0x85 .badFrame []).sdoBit true true 1 = some false := by decide

/-- R148: a transaction in progress as RSTN is negated is not taken; the next one is. -/
theorem test_abandoned_transaction :
    let started := after (.rstnNegated ⟨7, true⟩) (after .rstnAsserted (station 3 .member))
    let ended := after (.restart (frame 0x04 [])) started
    ended.port.response = HostPort.cleared.response ∧
    (after (.status (frame 0x08 [])) ended).port.response.code = 0x08 := by decide

/-- R150 and Table 10-7: the first byte clocked in names the command. -/
theorem test_first_byte_names_the_command :
    commandOf (frame 0x05 [21, 4, 3]) = some (.demandAppend (frame 0x05 [21, 4, 3])) ∧
    commandOf (frame 0x0E [1]) = some (.unknownCommandCode 0x0E (frame 0x0E [1])) := by decide

/-- R150: three further bits after the last whole byte. -/
theorem test_further_bits :
    (after (.enter ⟨byteBits [0x02] ++ [false, false, false]⟩) (station 3 .offline)).port.response =
      ⟨0x02, .badFrame, []⟩ := by decide

/-- Table 9-3: E = 2P + 1 is accepted and E = 2P is not. -/
theorem test_setup : (after (.setup (frame 0x01 [40, 10, 6, 2, 5, 2, 3, 3, 8, 1, 0, 0])) State.reset).setup =
    some params := by decide

theorem test_setup_expiry_too_low :
    (after (.setup (frame 0x01 [40, 10, 6, 2, 4, 2, 3, 3, 8, 1, 0, 0])) State.reset).port.response =
      ⟨1, .badParam, []⟩ := by decide

theorem test_enter : (after (.enter (frame 0x02 [])) (station 3 .offline)).member.station = .joining := by decide

theorem test_leave : (after (.leave (frame 0x03 [])) (station 3 .member)).outbox.leave = true := by decide

theorem test_restart : (after (.restart (frame 0x04 [])) (station 3 .member)).member =
    ⟨.offline, 0, false, 0, 0, .hostRestart⟩ := by decide

/-- Section 5.10: demand 21, k = 4, m = 3, priority 2, SPREAD, continuous. -/
theorem test_demand_append :
    (after (.demandAppend (frame 0x05 [21, 4, 3, 2, 1, 0, 0])) (station 6 .member)).demands =
      [⟨21, 4, 3, 2, .spread, 0, 0, false⟩] := by decide

/-- R83: a tag already held is BAD_PARAM. -/
theorem test_demand_append_held_tag :
    (after (.demandAppend (frame 0x05 [21, 4, 3, 2, 1, 0, 0]))
      ((station 6 .member).withDemands [demand 21 1 1 false])).port.response = ⟨5, .badParam, []⟩ := by decide

/-- Section 5.10, during cycle 502: the entries for slots 45 and 62 become RELEASING. -/
def cycle502 : State :=
  ((quorateMember 6).withHoldings [⟨16, .active⟩, ⟨30, .active⟩, ⟨62, .active⟩, ⟨45, .active⟩]).withDemands
    [⟨21, 4, 3, 2, .spread, 0, 0, true⟩]

theorem test_demand_replace :
    (after (.demandReplace (frame 0x06 [22, 2, 2, 1, 0, 0, 3])) cycle502).holdings =
      [⟨16, .active⟩, ⟨30, .active⟩, ⟨62, .releasing⟩, ⟨45, .releasing⟩] := by decide

theorem test_demand_replace_release :
    (after (.demandReplace (frame 0x06 [22, 2, 2, 1, 0, 0, 3])) cycle502).outbox.release =
      some (slotSetOf [45, 62]) := by decide

theorem test_withdraw : (after (.withdraw (frame 0x07 [21])) cycle502).demands = [] := by decide

/-- R153: STATUS clears the exit cause record after reporting it. -/
theorem test_status : (after (.status (frame 0x08 [])) State.reset).port.response.data =
    [0, 0, 0, 0, 0, 0, 0, 0, 1, 1] ∧ (after (.status (frame 0x08 [])) State.reset).member.exitCause = .none := by decide

/-- Tables 10-11 and 10-12: STATE, cycle 0, no tag, live count 0, code OFFLINE and POWER_ON. -/
theorem test_next_note : (after (.nextNote (frame 0x09 [])) State.reset).port.response.data =
    [5, 0, 0, 0, 0, 0, 1] := by decide

theorem test_snap : (after (.snap (frame 0x0A [])) (station 3 .joining)).snap.pending = true := by decide

theorem test_snap_read_not_ready :
    (after (.snapRead (frame 0x0B [7])) State.reset).port.response = ⟨0x0B, .notReady, []⟩ := by decide

theorem test_peers_read : (after (.peersRead (frame 0x0C [0])) (quorateMember 3)).port.response.data.take 7 =
    [0, 1, 1, 1, 4, 1, 0] := by decide

theorem test_queue_read :
    (after (.queueRead (frame 0x0D [])) cycle502).port.response.data.take 11 =
      [1, 21, 4, 3, 2, 1, 0, 0, 0, 0, 1] := by decide

theorem test_unknown_code :
    (after (.unknownCommandCode 0x0E (frame 0x0E [])) State.reset).port.response = ⟨0x0E, .badFrame, []⟩ := by decide

/-! ### Claims, releases and orphans (Sections 1.12 and 1.13) -/

/-- Station 12's map of Table 1-6 after CLAIM 3, with station 7 a LIVE member. -/
def claims : State :=
  let s := (quorateMember 12).withMap
    (mapOf [(0, [(7, 5), (3, 4)]), (1, [(7, 5), (3, 4)]), (2, [(7, 5)]), (3, [(3, 4)])])
  s.withDemands [demand 1 2 1 false]

/-- CLAIM 3 {0, 1, 3}, the second row of Table 1-6. -/
theorem test_claim_of_another :
    rows [0, 1, 2, 3] (after (.claimComplete 3 ⟨4, 0, slotSetOf [0, 1, 3]⟩) (hearing ((quorateMember 12).withMap
      (mapOf [(0, [(7, 5)]), (1, [(7, 5)]), (2, [(7, 5)])])))) =
      [[(7, 5), (3, 4)], [(7, 5), (3, 4)], [(7, 5)], [(3, 4)]] := by decide

/-- CLAIM 12 {0, 1, 2, 3}: refused in slots 0 and 1, granted in 2 and 3. -/
theorem test_own_claim :
    rows [0, 1, 2, 3] (after (.claimComplete 12 ⟨3, 0, slotSetOf [0, 1, 2, 3]⟩)
      (sending (.claim ⟨3, 0, slotSetOf [0, 1, 2, 3]⟩) claims)) =
      [[(7, 5), (3, 4)], [(7, 5), (3, 4)], [(7, 5), (12, 3)], [(3, 4), (12, 3)]] := by decide

theorem test_own_grant :
    (after (.claimComplete 12 ⟨3, 0, slotSetOf [0, 1, 2, 3]⟩)
      (sending (.claim ⟨3, 0, slotSetOf [0, 1, 2, 3]⟩) claims)).holdings = [⟨2, .pending⟩, ⟨3, .pending⟩] := by
  decide

/-- RELEASE 7 {1, 2}, the first row of Table 1-7. -/
theorem test_release :
    rows [0, 1, 2, 3] (after (.releaseComplete 7 (slotSetOf [1, 2])) (hearing claims)) =
      [[(7, 5), (3, 4)], [(3, 4)], [], [(3, 4)]] := by decide

/-- A station with one orphan of station 7 in slot 0, one mark from its end (Table 1-8). -/
def orphanHold (c : CycleNumber) (left : Nat) : State :=
  let s := (quorateMember 12).withMap
    (SlotMap.cleared.set 0 [⟨7, 5, some ⟨212, left⟩⟩, ⟨3, 4, none⟩])
  s.withTimer { s.timer with cycle := c }

/-- Mark 217 removes the orphan; mark 212 passes it over. -/
theorem test_orphan_countdown :
    rows [0] (after (.markComplete 3 (markOf 217 0) []) (hearing (orphanHold 216 1))) = [[(3, 4)]] := by decide

theorem test_orphan_of_this_mark :
    (after (.markComplete 3 (markOf 212 0) []) (hearing (orphanHold 211 5))).map.get 0 =
      [⟨7, 5, some ⟨212, 5⟩⟩, ⟨3, 4, none⟩] := by decide

theorem test_orphan_countdown_end :
    rows [0] (after (.orphanCountdownEnd 0 7) (orphanHold 217 0)) = [[(3, 4)]] := by decide

/-! ### Peers (Sections 3.10 and 3.11) -/

/-- Station 6 of Table 3-7. -/
def station6 : State :=
  let s := (quorateMember 6).withMap
    (mapOf [(4, [(2, 3), (13, 4)]), (5, [(13, 4)]), (6, [(2, 5)]), (7, [(2, 5), (9, 3)])])
  s.withPeers (s.peers.set 13 ⟨true, .member, 4, 0, 1⟩)

/-- PRESENCE of station 13 announcing {5, 6, 7}: the map of Table 3-7 and a CONTEST for {7}. -/
theorem test_presence :
    rows [4, 5, 6, 7] (after (.presenceComplete 13 ⟨.member, 2, 4, slotSetOf [5, 6, 7]⟩) (hearing station6)) =
      [[(2, 3)], [(13, 4)], [(2, 5), (13, 4)], [(2, 5), (9, 3)]] := by decide

theorem test_presence_contest :
    (after (.presenceComplete 13 ⟨.member, 2, 4, slotSetOf [5, 6, 7]⟩) (hearing station6)).outbox.contest =
      some (13, slotSetOf [7]) := by decide

/-- R12 and R13: the CONTEST takes the target's entry, whatever its state. -/
theorem test_contest :
    (after (.contestComplete 6 13 (slotSetOf [7])) (hearing ((quorateMember 13).withHoldings
      [⟨7, .active⟩, ⟨8, .active⟩]))).holdings = [⟨8, .active⟩] := by decide

/-- R53: a LEAVE takes the live count down, and R77: below Q the station holds nothing. -/
theorem test_leave_of_another :
    (after (.leaveComplete 1) (hearing ((quorateMember 13).withHoldings [⟨7, .active⟩]))).holdings = [] := by
  decide

/-- R51: at E = 5 the records become orphans with the present cycle number and E marks left. -/
theorem test_peer_expiry :
    ((after (.peerExpiry 1) (let s := (quorateMember 12).withMap (mapOf [(0, [(1, 5)])])
      s.withPeers (s.peers.set 1 ⟨true, .member, 5, 0, 5⟩))).map.get 0) = [⟨1, 5, some ⟨400, 5⟩⟩] := by decide

theorem test_absent_peer_orphaned :
    ((after (.absentPeerOrphaned 2) (let s := (quorateMember 12).withMap (mapOf [(0, [(2, 5)])])
      s.withPeers (s.peers.set 2 ⟨false, .member, 5, 0, 5⟩))).map.get 0) = [⟨2, 5, some ⟨400, 5⟩⟩] := by decide

/-! ### Membership -/

/-- R66: with E = 5 the mark that raises the standing counter to 4 lapses the station; 3 does not. -/
theorem test_standing_lapse_at_a_mark :
    (after (.markComplete 3 (markOf 401 0) []) (hearing (let s := quorateMember 12
      s.withMember { s.member with standing := 3 }))).member.station = .lapsed := by decide

theorem test_standing_below_the_lapse :
    (after (.markComplete 3 (markOf 401 0) []) (hearing (let s := quorateMember 12
      s.withMember { s.member with standing := 2 }))).member.station = .member := by decide

theorem test_standing_lapse :
    (after .standingLapse (let s := quorateMember 12
      s.withMember { s.member with standing := 4 })).member.exitCause = .lapsedSend := by decide

theorem test_joining_completion :
    (after .joiningCompletion (let s := station 12 .joining
      s.withMember { s.member with joiningCount := 5, ownPresence := true })).member.station = .member := by decide

/-- R34: MEMBER at cycle 0, in the gap with awaited value 0, with a MARK and a PRESENCE queued (Table 2-7). -/
theorem test_founding :
    (after .founding (station 9 .joining)).timer = ⟨.inGap 0 0, 0, 0, false⟩ ∧
    (after .founding (station 9 .joining)).outbox.mark = some 0 := by decide

theorem test_lapse_wait_end : (after .lapseWaitEnd (station 9 .lapsed)).member.station = .joining := by decide

theorem test_mark_timeout :
    (after .markTimeout (let s := station 9 .member
      s.withTimer { s.timer with phase := .inGap 0 401 })).member.exitCause = .lapsedLine := by decide

/-- R28: the timeout is taken before a MARK that completes at that moment, and the MARK then aligns the LAPSED
station. -/
theorem test_mark_at_the_moment_of_the_lapse :
    (after (.markComplete 2 (markOf 401 0) []) (after .markTimeout (hearing (let s := station 9 .member
      s.withTimer { s.timer with phase := .inGap 5120 401 })))).timer = ⟨.inSlot 0 0, 401, 0, false⟩ := by decide

/-! ### Planning (Section 5.10) -/

/-- The map before cycle 500's planning point. -/
def map500 : SlotMap :=
  Table.ofFn fun k =>
    if k.val < 16 then [⟨9, 8, none⟩]
    else if k = 30 then [⟨9, 2, none⟩]
    else if k = 50 then [⟨9, 9, none⟩]
    else [⟨9, 5, none⟩]

/-- Station 6 at the planning point of cycle 500. -/
def cycle500 : State :=
  let s := ((quorateMember 6).withMap map500).withDemands [⟨21, 4, 3, 2, .spread, 0, 0, false⟩]
  s.withTimer ⟨.inSlot 1 0, 500, 0, true⟩

theorem test_spread_picks : (after .planningPoint cycle500).planner.pickOrder = [30, 62, 46, 16] := by decide

theorem test_pack_picks : cycle500.picks (demand 21 4 3 false) = [16, 17, 18, 19] := by decide

/-- The end of cycle 504: DONE (22, 0, COMPLETED), and slots 16 and 30 become RELEASING. -/
def cycle504 : State :=
  let s := ((quorateMember 6).withHoldings [⟨16, .active⟩, ⟨30, .active⟩]).withDemands
    [⟨22, 2, 2, 1, .pack, 3, 1, true⟩]
  s.withTimer ⟨.inSlot 63 0, 504, 0, false⟩

theorem test_mark_gap_begin :
    (after .markGapBegin cycle504).holdings = [⟨16, .releasing⟩, ⟨30, .releasing⟩] ∧
    (after .markGapBegin cycle504).outbox.mark = some 505 := by decide

theorem test_demand_completed :
    (after .demandCompleted (cycle504.withDemands [⟨22, 2, 2, 1, .pack, 3, 0, true⟩])).outbox.release =
      some (slotSetOf [16, 30]) := by decide

/-! ### Sag (Section 6.6) -/

/-- The maps before the sag, at station `p` with its holdings. -/
def beforeSag (p : StationId) (hs : List Holding) (floor : Nat) : State :=
  let s := (station p .member).withMap ((mapOf [(10, [(5, 5), (2, 4)]), (11, [(9, 3), (5, 5)]),
    (13, [(2, 4)])]).set 12 [⟨7, 4, some ⟨398, 3⟩⟩, ⟨9, 3, none⟩])
  let s := s.withPeers (((s.peers.set 2 ⟨true, .member, 4, 1, 0⟩).set 5 ⟨true, .member, 5, 2, 0⟩).set 9
    ⟨true, .member, 3, 2, 0⟩)
  let s := s.withSetup (some { params with deratedBudget := 4 })
  let s := s.withPeers (s.peers.set p PeerEntry.cleared)
  let s := s.withPlanner { s.planner with announcedPriority := if p = 2 then 1 else 2 }
  (s.withHoldings hs).withDemands [demand 1 2 floor true]

/-- Station 2 yields slot 10, station 5 slots 10 and 11, station 9 slot 12. -/
theorem test_sag_at_station_2 :
    (after (.sagComplete 9) (hearing (beforeSag 2 [⟨10, .active⟩, ⟨13, .active⟩] 2))).outbox.release =
      some (slotSetOf [10]) := by decide

theorem test_sag_at_station_5 :
    (after (.sagComplete 9) (hearing (beforeSag 5 [⟨10, .active⟩, ⟨11, .active⟩] 1))).notes.records.drop 1 =
      [⟨400, .derate 3 .started⟩, ⟨400, .yielded 2 .sagShared⟩, ⟨400, .short 1 0 .sag⟩] := by decide

theorem test_sag_at_its_sender :
    (after (.sagComplete 9) (sending .sag (beforeSag 9 [⟨11, .active⟩, ⟨12, .active⟩] 2))).outbox.release =
      some (slotSetOf [12]) := by decide

theorem test_sagin_change : (after (.saginChange true) (station 9 .member)).sag.sagin = true := by decide

/-- R106: the condition becomes present and a SAG is queued. -/
theorem test_sag_condition_change :
    (after .sagConditionChange (after (.saginChange true) (station 9 .member))).outbox.sag = true := by decide

/-- Mark 405, field 0: DERATE (END, 0), and the yield hold ends. -/
def mark405 : State :=
  let s := quorateMember 9
  (s.withSag { s.sag with derateRemaining := 1, windowOpen := true }).withPlanner
    { s.planner with yieldHold := true }

theorem test_window_end_at_a_mark :
    (after (.markComplete 2 (markOf 405 0) []) (hearing mark405)).notes.records.drop 1 =
      [⟨405, .derate 0 .ended⟩] ∧
    (after (.markComplete 2 (markOf 405 0) []) (hearing mark405)).planner.yieldHold = false := by decide

theorem test_window_end :
    (after .windowEnd (mark405.withSag { mark405.sag with derateRemaining := 0 })).sag.windowOpen = false := by
  decide

theorem test_yield_hold_end :
    (after .yieldHoldEnd (mark405.withSag { mark405.sag with derateRemaining := 0 })).planner.yieldHold =
      false := by decide

/-! ### The load output (Table 7-2) -/

/-- A station that holds slots 3, 4, 5, 9, 62 and 63 ACTIVE, in slot `k` with the given output. -/
def driving (k : SlotIndex) (o : LoadOutput) : State :=
  let s := (quorateMember 6).withHoldings ([3, 4, 5, 9, 62, 63].map fun k => ⟨k, .active⟩)
  (s.withTimer { s.timer with phase := .inSlot k 0 }).withOutput o

theorem test_on_point : (after .onPoint (driving 3 ⟨.lead, false⟩)).output = ⟨.on, false⟩ := by decide
theorem test_on_point_of_no_entry : (after .onPoint (driving 6 ⟨.lead, false⟩)).output = ⟨.idle, false⟩ := by decide
theorem test_tail_point_carries : (after .tailPoint (driving 4 ⟨.on, false⟩)).output = ⟨.on, true⟩ := by decide
theorem test_tail_point_of_slot_63 : (after .tailPoint (driving 63 ⟨.on, false⟩)).output = ⟨.tail, false⟩ := by decide
theorem test_slot_boundary_under_carry :
    (after .slotBoundary (driving 3 ⟨.on, true⟩)).output = ⟨.on, false⟩ := by decide

/-- Table 7-3: a CONTEST for slot 4 under carry ends the ON period in TAIL. -/
theorem test_contest_under_carry :
    (after (.contestComplete 1 6 (slotSetOf [4])) (hearing (driving 3 ⟨.on, true⟩))).output =
      ⟨.tail, false⟩ := by decide

/-- R118 with ACTIVE_LOW: the on level is low. -/
theorem test_active_low :
    ((driving 3 ⟨.on, false⟩).withSetup (some { params with polarity := .activeLow })).loadoutPin =
      some false := by decide

/-! ### The share line -/

/-- R144: the waiting notice with the lowest kind code is taken. -/
theorem test_attempt_start :
    (after .attemptStart ((station 3 .member).withOutbox
      { Outbox.empty with release := some 1, presence := true })).outbox.inFlight = some (.release 1) := by decide

theorem test_arbitration_lost :
    (after .arbitrationLost (sending .leave (station 3 .leaving))).line.tx = .silent := by decide

theorem test_receive_error :
    (after (.receiveError .gapEdge) (hearing (station 3 .member))).line.tx = .breaking true := by decide

/-- R139: a 1 read back as 0 that returns to recessive is a clash; a 0 read back as 1 is not. -/
theorem test_clash :
    (after (.readbackMismatch true false true) (sending .leave (station 3 .leaving))).line.broken =
      some true := by decide

theorem test_line_fault :
    (after (.readbackMismatch false true true) (sending .leave (station 3 .leaving))).line.broken =
      some false := by decide

theorem test_break_end :
    (after .breakEnd (let s := station 3 .member
      s.withLine { s.line with tx := .breaking true, receiveFaults := 15 })).member.exitCause =
      .faultReceive := by decide

/-- R130 and R131: the idle time counts from the release of another station's BREAK, and a notice that becomes
ready twelve bit times later is sent at once. -/
def afterBreak : State := (after .breakEnd (after .lineBreakSeen (hearing (quorateMember 3)))).pass Config.idleTicks

theorem test_idle_counts_from_the_release : afterBreak.line.idleTime = Config.idleTicks ∧
    (after .attemptStart (afterBreak.withOutbox { Outbox.empty with presence := true })).timer =
      afterBreak.timer := by decide

/-- R135: a second clash does not cut the BREAK that it is answered with. -/
theorem test_break_runs_on :
    let s := after (.readbackMismatch true false true) (sending (.release 1) (quorateMember 3))
    let s := s.withLine { s.line with clashes := 1 }
    after .attemptBroken s = s ∧ (after .attemptBroken (after .breakEnd s)).member.exitCause = .faultDuplicate := by
  decide

theorem test_line_break_seen :
    (after .lineBreakSeen (sending .leave (station 3 .leaving))).line.tx = .silent := by decide

/-- R137 and Table 8-2: the fourth broken attempt of a LEAVE ends LEAVING. -/
def broken (n : Notice) (attempts : Nat) (clash : Bool) (s : State) : State :=
  let s := sending n s
  s.withLine { s.line with tx := .silent, broken := some clash, attempts := attempts }

theorem test_attempt_broken :
    (after .attemptBroken (broken .leave 3 false (station 3 .leaving))).member.station = .offline := by decide

theorem test_transmit_failure :
    (after .transmitFailure (broken (.release 1) 4 false (station 3 .member))).outbox.release = some 1 := by decide

theorem test_clash_fault :
    (after .clashFault (let s := station 3 .member
      s.withLine { s.line with clashes := 2 })).member.exitCause = .faultDuplicate := by decide

theorem test_receive_fault :
    (after .receiveFault (let s := station 3 .member
      s.withLine { s.line with receiveFaults := 16 })).member.exitCause = .faultReceive := by decide

/-- R131: 5 µs are 40 periods. At 40 the station joins the start pulse, at 41 it receives the frame. -/
def idleFor (n : Nat) (s : State) : State := s.withLine { s.line with awaitingIdle := false, idleTime := n }

theorem test_joins_the_start_pulse :
    (after (.frameReceptionBegin 40) (idleFor 100 ((station 3 .member).withOutbox
      { Outbox.empty with presence := true }))).line.tx = .sending := by decide

theorem test_receives_the_start_pulse :
    (after (.frameReceptionBegin 41) (idleFor 100 ((station 3 .member).withOutbox
      { Outbox.empty with presence := true }))).line.tx = .silent := by decide


/-! ### Witnesses: the hypotheses of the statements can be met

One theorem for each statement with hypotheses, one state for each of its clauses, at the ends of the ranges
that a clause names. -/

/-- Station 6, a quorate MEMBER in slot 3 with its output on: it holds slot 3 ACTIVE and slot 4 PENDING, and its
head is served. -/
def holder : State :=
  let s := (quorateMember 6).withMap (mapOf [(3, [(6, 3)]), (4, [(1, 4), (6, 3)])])
  ((s.withHoldings [⟨3, .active⟩, ⟨4, .pending⟩]).withDemands [demand 1 2 1 true]).withOutput ⟨.on, false⟩

/-- The same station with the next slot ACTIVE too and the ON period carried into it. -/
def carrying : State := (holder.withHoldings [⟨3, .active⟩, ⟨4, .active⟩]).withOutput ⟨.on, true⟩

theorem holder_safe : holder.Safe := by constructor <;> decide

/-- The Cycle Timer waits in the gap. -/
def inGap (s : State) : State := s.withTimer { s.timer with phase := .inGap 0 401 }

theorem heard {s : State} {p : StationId} {n : Notice} (h : (hearing s).Hears p n) :
    (hearing s).Completes p n (hearing s).afterHeard := .inl ⟨h, rfl⟩

theorem sent {s : State} {n : Notice} (h : (sending n s).Sends n) :
    (sending n s).Completes (sending n s).id n (sending n s).afterSent := .inr ⟨h, rfl, rfl⟩

theorem witness_TimePassesOnAnEmptyQueue :
    State.reset.pending = [] ∧ State.reset.timer.phase = .unaligned ∧ holder.timer.phase = .inSlot 3 0 ∧
    (inGap holder).timer.phase = .inGap 0 401 ∧
    (holder.line.awaitingIdle = true ∧ (holder.pass (Config.idleTicks - 1)).line.awaitingIdle = true ∧
      (holder.pass Config.idleTicks).line.awaitingIdle = false) := by decide

theorem witness_EveryCommandAnswersNext :
    (∀ p, Instr.nop (frame 0x00 []) ≠ .powerOn p) ∧ (∀ p, Instr.nop (frame 0x00 []) ≠ .rstnNegated p) ∧
    Instr.nop (frame 0x00 []) ≠ .rstnAsserted ∧ (∀ f, Instr.nop (frame 0x00 []) ≠ .setup f) := by simp

theorem witness_AssertedResetHoldsTheStation :
    (holder.withRstn true).rstn = true ∧ (∀ p, Instr.onPoint ≠ .powerOn p) ∧ Instr.onPoint ≠ .rstnAsserted ∧
    (∀ p, Instr.onPoint ≠ .rstnNegated p) ∧ (∀ b, Instr.onPoint ≠ .saginChange b) := by
  refine ⟨rfl, ?_⟩
  simp

/-- The host port of a started station that a reset has caught in a transaction. -/
def caught (s : State) : State := s.withPort { s.port with abandoned := true }

/-- A transaction of no whole byte, of another row, too short, with further bits and with a bad padding byte; the
code after the last command; and each refusal for the state. -/
theorem witness_RefusedFramesChangeNothingElse :
    let short := frame 0x01 (List.replicate 11 1)
    let further : HostFrame := ⟨byteBits [0x02] ++ List.replicate 7 false⟩
    [true, false, true].length < 8 ∧ holder.rstn = false ∧ (caught holder).port.abandoned = true ∧
    holder.port.abandoned = false ∧
    ((⟨List.replicate 7 true⟩ : HostFrame).bytes = []) ∧
    ((Instr.nop short, 0x00, 0) ∈ hostCommands short ∧ short.bytes.head? ≠ some 0x00) ∧
    ((Instr.setup short, 0x01, 12) ∈ hostCommands short ∧ short.bytes.head? = some 0x01 ∧ ¬ Fits short 0x01 12) ∧
    ((Instr.enter further, 0x02, 0) ∈ hostCommands further ∧ further.bytes.head? = some 0x02 ∧
      ¬ Fits further 0x02 0) ∧
    ¬ Fits (frame 0x0B [3, 1]) 0x0B 1 ∧
    ((frame 0x0E [1]).bytes.head? = some 0x0E ∧ 13 < (0x0E : Byte).toNat) ∧
    ((frame 0x0E [1]).bytes.head? ≠ some 0x0F ∧ (0x0D : Byte).toNat ≤ 13) := by decide

theorem witness_RefusedFramesChangeNothingElse_state :
    (Fits (frame 0x01 (List.replicate 12 1)) 0x01 12 ∧ Fits (frame 0x02 [0]) 0x02 0 ∧
      holder.member.station ≠ .offline) ∧
    (Fits (frame 0x03 []) 0x03 0 ∧ Fits (frame 0x0A []) 0x0A 0 ∧
      (station 3 .leaving).member.station ≠ .joining ∧ (station 3 .leaving).member.station ≠ .member) ∧
    (Fits (frame 0x05 (List.replicate 7 1)) 0x05 7 ∧ Fits (frame 0x06 (List.replicate 7 1)) 0x06 7 ∧
      (station 3 .faulted).member.station = .faulted) := by decide

theorem witness_NopAnswersOkAndChangesNothing : holder.Ready ∧ Fits (frame 0x00 [0]) 0x00 0 := by decide

/-- Both ends of Table 9-3 are taken whole, and E = 2P is refused. -/
theorem witness_SetupIsTakenWholeOrNotAtAll :
    let f := frame 0x01 [128, 255, 255, 4, 15, 32, 15, 63, 32, 15, 1, 1, 0]
    State.reset.Ready ∧ State.reset.member.station = .offline ∧ f.bits.length % 8 = 0 ∧
    f.bytes = [0x01, 128, 255, 255, 4, 15, 32, 15, 63, 32, 15, 1, 1] ++ [0] ∧
    (after (.setup (frame 0x01 [128, 255, 255, 4, 15, 32, 15, 63, 32, 15, 1, 1])) State.reset).setup.isSome = true ∧
    (after (.setup (frame 0x01 [8, 1, 0, 1, 3, 1, 1, 1, 1, 1, 0, 0])) State.reset).setup.isSome = true ∧
    (after (.setup (frame 0x01 [8, 1, 0, 1, 2, 1, 1, 1, 1, 1, 0, 0])) State.reset).setup = none := by decide

theorem witness_EnterGoesToJoining :
    State.reset.Ready ∧ Fits (frame 0x02 []) 0x02 0 ∧ State.reset.member.station = .offline ∧
    State.reset.setup = none ∧ (station 3 .offline).member.station = .offline ∧
    (station 3 .offline).setup.isSome = true := by decide

theorem witness_LeaveEndsService :
    holder.Ready ∧ Fits (frame 0x03 []) 0x03 0 ∧ holder.member.station = .member ∧
    (station 3 .joining).member.station = .joining := by decide

theorem witness_RestartKeepsOnlySetupAndId : holder.Ready ∧ Fits (frame 0x04 []) 0x04 0 := by decide

/-- k = m = 64 is fair and k = 65 is not; a held tag, a full queue, a queue with one place left, an empty one. -/
theorem witness_DemandIsPlacedOrRefusedInOrder :
    let full := holder.withDemands ((List.range 8).map fun i => demand (BitVec.ofNat 8 (i + 1)) 1 1 false)
    let seven := holder.withDemands ((List.range 7).map fun i => demand (BitVec.ofNat 8 (i + 1)) 1 1 false)
    let f := frame 0x05 [255, 64, 64, 3, 1, 255, 255, 0]
    holder.Ready ∧ holder.member.station ≠ .faulted ∧ f.bits.length % 8 = 0 ∧
    f.bytes = [0x05, 255, 64, 64, 3, 1, 255, 255] ++ [0] ∧
    (after (.demandReplace (frame 0x06 [255, 64, 64, 3, 1, 255, 255])) holder).port.response.status = .ok ∧
    (after (.demandReplace (frame 0x06 [255, 65, 64, 3, 1, 0, 0])) holder).port.response.status = .badParam ∧
    (∃ x ∈ full.demands, x.tag = 8) ∧
    ((∀ x ∈ full.demands, x.tag ≠ 9) ∧ 8 ≤ full.demands.length) ∧
    ((∀ x ∈ seven.demands, x.tag ≠ 9) ∧ seven.demands.length < 8 ∧ seven.demands ≠ []) ∧
    State.reset.demands = [] := by decide

theorem witness_WithdrawEndsTheNamedDemand :
    let two := holder.withDemands [demand 1 1 1 true, demand 2 1 1 false]
    two.Ready ∧ Fits (frame 0x07 [2]) 0x07 1 ∧ (two.demands.map Demand.tag).Nodup ∧
    (∀ d ∈ two.demands, d.tag ≠ (frame 0x07 [3]).bytes.getD 1 0) ∧
    two.demands = [] ++ demand 1 1 1 true :: [demand 2 1 1 false] ∧
    (demand 1 1 1 true).tag = (frame 0x07 [1]).bytes.getD 1 0 ∧
    two.demands = [demand 1 1 1 true] ++ demand 2 1 1 false :: [] ∧
    (demand 2 1 1 false).tag = (frame 0x07 [2]).bytes.getD 1 0 := by decide

/-- A head change from k = 2 holdings: no waiting CLAIM; a waiting CLAIM of two picks with room 0, room 1 and
room 2; the output on and off. -/
theorem witness_HeadChangeFitsHoldingsToTheHead :
    let claiming (k : Nat) : State := ((holder.withOutbox { Outbox.empty with claim := some (slotSetOf [8, 9]) }
      ).withPlanner ⟨true, [8, 9], false, 0, 0⟩).withDemands [demand 1 k 1 true]
    (holder.holdings.map Holding.slot).Nodup ∧ holder.outbox.claim = none ∧
    ((claiming 2).outbox.claim.isSome = true ∧ (claiming 2).headWant - 2 = 0) ∧
    ((claiming 4).headWant - 2 = 2 ∧ (claiming 4).planner.pickOrder.length ≤ 2) ∧
    ((claiming 3).headWant - 2 = 1 ∧ 1 < (claiming 3).planner.pickOrder.length) ∧
    (station 6 .member).output.phase ≠ .on ∧
    (holder.OutputLaw ∧ holder.output.phase = .on ∧ holder.timer.phase = .inSlot 3 0) ∧
    (carrying.OutputLaw ∧ carrying.output.carry = true) := by decide

theorem witness_StatusReportsThenClears : holder.Ready ∧ Fits (frame 0x08 [0, 0]) 0x08 0 := by decide

theorem witness_ReadingCommandsAnswer :
    holder.Ready ∧ Fits (frame 0x09 []) 0x09 0 ∧ Fits (frame 0x0A []) 0x0A 0 ∧ Fits (frame 0x0D []) 0x0D 0 ∧
    Fits (frame 0x0B [7]) 0x0B 1 ∧ Fits (frame 0x0C [3]) 0x0C 1 ∧ holder.member.station = .member ∧
    (station 3 .joining).member.station = .joining := by decide

/-- The first and the last page, a slot of each, and an empty and a full queue. -/
theorem witness_ResponseDataFollowTheirLayout :
    holder.Ready ∧ (0 : Nat) ≤ 7 ∧ (0 : SlotIndex).val / 8 = 0 ∧ (7 : Nat) ≤ 7 ∧ (63 : SlotIndex).val / 8 = 7 ∧
    (0 : Nat) < 8 ∧ (7 : Nat) < 8 ∧ State.reset.demands.length ≤ 8 ∧
    (holder.withDemands (List.replicate 8 (demand 1 1 1 false))).demands.length ≤ 8 := by decide

/-- SAGIN asserted for any time less than S, with the setup `c`. -/
def sagging (c : Setup) (s : State) : State :=
  (s.withSetup (some c)).withSag { s.sag with sagin := true }

theorem witness_SagConditionFollowsTheFilter :
    holder.rstn = false ∧ State.reset.setup = none ∧ holder.sag.sagin = holder.sag.condition ∧
    (let s := sagging params (station 3 .lapsed);
      s.setup.isSome = true ∧ s.sag.sagin ≠ s.sag.condition ∧ s.onLine = false) ∧
    (let s := sagging params holder;
      s.sag.sagin = true ∧ s.sag.condition = false ∧ s.onLine = true ∧ s.cfg.sagMode = .shared) := by decide

theorem witness_LocalSagShedsTheHoldings :
    let c := { params with sagMode := .localOnly }
    let s := sagging c holder
    s.rstn = false ∧ s.setup.isSome = true ∧ s.sag.sagin = true ∧ s.sag.condition = false ∧ s.onLine = true ∧
    s.cfg.sagMode = .localOnly ∧ s.member.station = .member ∧ (s.OutputLaw ∧ s.output.phase = .on) ∧
    ((sagging c carrying).OutputLaw ∧ (sagging c carrying).output.carry = true ∧
      (sagging c carrying).output.phase = .on ∧ (sagging c carrying).onLine = true) ∧
    (sagging c (station 3 .joining)).onLine = true ∧
    (sagging c (station 3 .joining)).member.station = .joining ∧
    (sagging c (station 3 .joining)).output.phase ≠ .on := by decide

/-- The SAG of Section 6.6 heard at station 2, which yields, and sent by station 9; and at a station whose slots
all stand within Bd. -/
theorem witness_SagBeginsTheWindowAndYields :
    let s := beforeSag 2 [⟨10, .active⟩, ⟨13, .active⟩] 2
    (hearing s).Completes 9 .sag (hearing s).afterHeard ∧ (hearing s).onLine = true ∧
    (hearing s).designatedHere ≠ 0 ∧
    (sending .sag holder).Completes 6 .sag (sending .sag holder).afterSent ∧
    (sending .sag holder).onLine = true ∧
    ((hearing (quorateMember 6)).Completes 9 .sag (hearing (quorateMember 6)).afterHeard ∧
      (hearing (quorateMember 6)).designatedHere = 0) :=
  ⟨heard (by decide), by decide, by decide, sent (n := .sag) (s := holder) (by decide), by decide,
    heard (by decide), by decide⟩

/-- A designation that yields with the output on: station 6 holds slot 3, which carries more than Bd. -/
theorem witness_SagBeginsTheWindowAndYields_on :
    let s := hearing ((holder.withMap (mapOf [(3, [(1, 4), (6, 3)]), (4, [(6, 3)])])))
    s.Completes 9 .sag s.afterHeard ∧ s.designatedHere ≠ 0 ∧ s.OutputLaw ∧ s.output.phase = .on ∧
    s.timer.phase = .inSlot 3 0 :=
  ⟨heard (by decide), by decide, by decide, by decide, by decide⟩

/-- Two live records and an orphan: the designation stops after the first, and before the second. -/
theorem witness_DesignationIsTheShortestSufficientYield :
    let e : SlotEntry := [⟨7, 4, some ⟨398, 3⟩⟩, ⟨9, 3, none⟩, ⟨5, 5, none⟩]
    let order := yieldOrder (fun _ => 2) e
    0 < order.length ∧ (1 : Nat) < order.length ∧ designated 8 (fun _ => 2) e = [5] ∧
    (SlotMap.cleared.set 12 e).get 12 = e := by decide

/-- The station waits for the next idle with a notice in flight, two of whose attempts have ended in BREAK. -/
def retrying (n : Notice) (s : State) : State :=
  (s.withOutbox { s.outbox with inFlight := some n }).withLine { s.line with attempts := 2, clashes := 1 }

/-- R30, R74 and R146: a mark withdraws the own MARK in flight, with its counts, and no other notice. -/
theorem test_mark_withdraws_only_a_mark :
    let mark := fun s : State => after (.markComplete 1 (markOf 401 0) []) (hearing s)
    let leaving := mark (retrying .leave (station 3 .leaving))
    let member := mark (retrying (.mark (markOf 401 0)) (inGap holder))
    (leaving.outbox.inFlight = some .leave ∧ leaving.line.attempts = 2) ∧
    (member.outbox.inFlight = none ∧ member.line.attempts = 0 ∧ member.line.clashes = 0) := by decide

/-- A MARK heard and sent; one that begins and one that ends the window; one at a LAPSED station, also as it
completes at the very moment of the lapse. -/
theorem witness_MarkAlignsAndCounts :
    (hearing holder).Completes 1 (.mark (markOf 401 0)) (hearing holder).afterHeard ∧
    (hearing holder).StaysOn (markOf 401 0) ∧ (hearing holder).onLine = true ∧
    ((hearing holder).member.station = .member ∧
      (after (.markComplete 1 (markOf 401 0) []) (hearing holder)).quorate = true) ∧
    derateRecords 401 (hearing holder).afterHeard.sag.derateRemaining 2 = [⟨401, .derate 2 .started⟩] ∧
    derateRecords 405 mark405.sag.derateRemaining 0 = [⟨405, .derate 0 .ended⟩] ∧
    (let s := sending (.mark (markOf 401 0)) holder;
      s.Completes 6 (.mark (markOf 401 0)) s.afterSent ∧ s.StaysOn (markOf 401 0)) ∧
    (let s := hearing (station 6 .lapsed);
      s.Completes 1 (.mark (markOf 401 0)) s.afterHeard ∧ s.StaysOn (markOf 401 0) ∧ s.onLine = false ∧
      s.member.station ≠ .member) ∧
    (let s := (after .markTimeout (hearing (inGap holder)));
      s.Hears 1 (.mark (markOf 401 0)) ∧ s.line.closing = true ∧ s.onLine = false) :=
  ⟨heard (by decide), by decide, by decide, by decide, by decide, by decide,
    ⟨sent (n := .mark (markOf 401 0)) (s := holder) (by decide), by decide⟩,
    ⟨heard (by decide), by decide, by decide, by decide⟩, by decide⟩

/-- Notices in flight at a mark: a LEAVE at a LEAVING station, a CONTEST at a MEMBER, and the own MARK of a MEMBER in
the gap. -/
theorem witness_MarkAlignsAndCounts_inFlight :
    let m := Notice.mark (markOf 401 0)
    let leaving := hearing (retrying .leave (station 3 .leaving))
    let contesting := hearing (retrying (.contest 1 1) holder)
    let marking := hearing (retrying m (inGap holder))
    (leaving.Completes 1 m leaving.afterHeard ∧ leaving.StaysOn (markOf 401 0) ∧ leaving.onLine = false ∧
      leaving.member.station = .leaving ∧ leaving.afterHeard.outbox.inFlight = some .leave ∧
      leaving.afterHeard.line.attempts = 2) ∧
    (contesting.Completes 1 m contesting.afterHeard ∧ contesting.StaysOn (markOf 401 0) ∧
      contesting.afterHeard.outbox.inFlight = some (.contest 1 1)) ∧
    (marking.Completes 1 m marking.afterHeard ∧ marking.StaysOn (markOf 401 0) ∧
      marking.afterHeard.outbox.inFlight = some m ∧ marking.afterHeard.timer.phase = .inGap 0 401) :=
  ⟨⟨heard (by decide), by decide⟩, ⟨heard (by decide), by decide⟩, heard (by decide), by decide⟩

/-- A mark that loses the quorum with a CLAIM waiting, and a JOINING station that holds the laws. -/
theorem witness_MarkAlignsAndCounts_claim :
    let m := Notice.mark (markOf 401 0)
    let claiming := (holder.withOutbox { holder.outbox with claim := some (slotSetOf [7]) }).withPlanner
      { holder.planner with claimOutstanding := true, pickOrder := [7] }
    let lone := hearing (claiming.withPeers (holder.peers.set 1 ⟨true, .member, 4, 1, 4⟩))
    let s := hearing (station 6 .joining)
    (lone.Completes 2 m lone.afterHeard ∧ lone.StaysOn (markOf 401 0) ∧ lone.quorate = true ∧
      (after (.markComplete 2 (markOf 401 0) []) lone).quorate = false ∧
      lone.afterHeard.cycleEnd.outbox.claim.isSome = true) ∧
    (s.Completes 1 m s.afterHeard ∧ s.StaysOn (markOf 401 0) ∧ s.member.station = .joining ∧ s.HoldingLaw ∧
      s.DemandLaw ∧ s.ServedLaw ∧ s.ClaimLaw) :=
  ⟨⟨heard (by decide), by decide⟩, heard (by decide), by decide⟩

/-- A MARK that disagrees, at a standing counter that does not lapse the station; and one at the counter that
does: E = 5 and a counter of 3. -/
theorem witness_MarkEndsMembership :
    let other := { markOf 401 0 with budget := 11 }
    let due := hearing (holder.withMember { holder.member with standing := 3 })
    ((hearing holder).Completes 1 (.mark other) (hearing holder).afterHeard ∧ (hearing holder).onLine = true ∧
      ¬ Agrees other (hearing holder).cfg ∧
      ¬ ((hearing holder).cfg.expiry ≤ (hearing holder).member.standing + 2)) ∧
    (due.Completes 1 (.mark (markOf 401 0)) due.afterHeard ∧ due.onLine = true ∧
      Agrees (markOf 401 0) due.cfg ∧ due.member.station = .member ∧ due.cfg.expiry ≤ due.member.standing + 2) ∧
    (due.Completes 1 (.mark other) due.afterHeard ∧ ¬ Agrees other due.cfg ∧
      (after (.markComplete 1 other [.agreement]) due).member.exitCause = .faultParameter ∧
      (after (.markComplete 1 other [.standing]) due).member.exitCause = .lapsedSend) :=
  ⟨⟨heard (by decide), by decide, by decide, by decide⟩, ⟨heard (by decide), by decide⟩, heard (by decide), by decide⟩

/-- Station 1 is silent for E − 1 marks, one mark from its expiry. -/
theorem witness_MarkCountsSilenceAndOrphans :
    let s := hearing (holder.withPeers (holder.peers.set 1 ⟨true, .member, 4, 1, 4⟩))
    s.Completes 2 (.mark (markOf 401 0)) s.afterHeard ∧ s.StaysOn (markOf 401 0) ∧ s.onLine = true ∧
    s.SilenceLaw ∧ s.cfg.expiry ≤ (s.peers.get 1).silence + 1 :=
  ⟨heard (by decide), by decide, by decide, by decide, by decide⟩

/-- At a MARK that keeps the quorum, at one that loses it with station 1, and with a head not yet served, also
where the loss comes after the promotion. -/
theorem witness_MarkPromotesPendingHoldings :
    let unserved := fun s : State => hearing (s.withDemands [demand 1 2 2 false])
    let lone := holder.withPeers (holder.peers.set 1 ⟨true, .member, 4, 1, 4⟩)
    let m := Instr.markComplete 2 (markOf 401 0)
    ((unserved holder).Completes 1 (.mark (markOf 401 0)) (unserved holder).afterHeard ∧
      (unserved holder).StaysOn (markOf 401 0) ∧ (unserved holder).member.station = .member) ∧
    (after (m []) (unserved holder)).quorate = true ∧
    (unserved holder).afterHeard.truncate.demands = demand 1 2 2 false :: [] ∧
    servedRecords 401 2 [demand 1 2 2 false] = [⟨401, .served 1 2⟩] ∧
    servedRecords 401 2 [demand 1 2 2 true] = [] ∧
    ((hearing lone).quorate = true ∧ (after (m []) (hearing lone)).quorate = false ∧
      (hearing lone).DemandLaw) ∧
    ((unserved lone).quorate = true ∧ (after (m [.promotion]) (unserved lone)).quorate = false) :=
  ⟨⟨heard (by decide), by decide, by decide⟩, by decide, by decide, by decide, by decide, by decide, by decide⟩

/-- Reading a frame takes nothing from the safety of a station that drives nothing. -/
theorem hearing_safe : (hearing holder).Safe :=
  { holder_safe with drive := by decide, lineRanges := by decide, closing := by decide }

theorem witness_MarkOrderDecidesOnlyTheRecords :
    let s := hearing holder
    s.Safe ∧ s.Completes 1 (.mark (markOf 401 0)) s.afterHeard ∧ Agrees (markOf 401 0) s.cfg :=
  ⟨hearing_safe, heard (by decide), by decide⟩

/-- The mark that brings the joining count from E − 1 to E, with and without the own PRESENCE. -/
theorem witness_MarkCountsTowardMembership :
    let s (done : Bool) := hearing (let s := station 6 .joining
      s.withMember { s.member with joiningCount := 4, ownPresence := done })
    (s true).Completes 1 (.mark (markOf 401 0)) (s true).afterHeard ∧ (s true).member.station = .joining ∧
    Agrees (markOf 401 0) (s true).cfg ∧ (s true).aligned = true ∧ (s true).member.ownPresence = true ∧
    (s false).Completes 1 (.mark (markOf 401 0)) (s false).afterHeard ∧ (s false).member.ownPresence = false :=
  ⟨heard (by decide), by decide, by decide, by decide, by decide, heard (by decide), by decide⟩

/-- A LIVE peer and an ABSENT one, each with a silence count of E. -/
theorem witness_SilentPeersExpire :
    let s := holder.withPeers ((holder.peers.set 1 ⟨true, .member, 4, 1, 5⟩).set 2 ⟨false, .member, 4, 1, 5⟩)
    s.rstn = false ∧ s.onLine = true ∧
    ((1 : StationId) ≠ s.id ∧ s.cfg.expiry ≤ (s.peers.get 1).silence ∧ (s.peers.get 1).live = true) ∧
    ((2 : StationId) ≠ s.id ∧ s.cfg.expiry ≤ (s.peers.get 2).silence ∧ (s.peers.get 2).live = false) := by
  decide

theorem witness_ConditionsOfAMarkActAsCommands :
    holder.rstn = false ∧
    (let s := holder.withMember { holder.member with standing := 4 };
      s.member.station = .member ∧ s.cfg.expiry ≤ s.member.standing + 1) ∧
    (let s := station 6 .joining;
      let s := s.withMember { s.member with joiningCount := 5, ownPresence := true };
      s.member.station = .joining ∧ s.cfg.expiry ≤ s.member.joiningCount ∧ s.member.ownPresence = true) ∧
    (let s := holder.withSag { holder.sag with windowOpen := true };
      s.onLine = true ∧ s.sag.windowOpen = true ∧ s.sag.derateRemaining = 0 ∧ s.planner.localHold = 0) ∧
    (let s := holder.withDemands [⟨1, 2, 1, 0, .pack, 65535, 0, true⟩];
      s.demands = ⟨1, 2, 1, 0, .pack, 65535, 0, true⟩ :: [] ∧ (65535 : Nat) ≠ 0) := by decide

theorem witness_ContestRemovesTheTarget :
    (hearing holder).Completes 1 (.contest 6 (slotSetOf [3])) (hearing holder).afterHeard ∧
    (hearing holder).onLine = true ∧
    (hearing holder).Completes 1 (.contest 2 (slotSetOf [63])) (hearing holder).afterHeard ∧
    (let s := sending (.contest 1 (slotSetOf [4])) holder;
      s.Completes 6 (.contest 1 (slotSetOf [4])) s.afterSent ∧ s.onLine = true) ∧
    ((hearing holder).afterHeard.OutputLaw ∧ (hearing holder).afterHeard.output.phase = .on ∧
      (hearing holder).afterHeard.timer.phase = .inSlot 3 0) ∧
    ((hearing carrying).afterHeard.OutputLaw ∧ (hearing carrying).afterHeard.output.carry = true) :=
  ⟨heard (by decide), by decide, heard (by decide),
    ⟨sent (n := .contest 1 (slotSetOf [4])) (s := holder) (by decide), by decide⟩, by decide, by decide⟩

theorem witness_ReleaseRemovesTheSender :
    (hearing holder).Completes 1 (.release (slotSetOf [4])) (hearing holder).afterHeard ∧
    (hearing holder).onLine = true ∧
    (let s := sending (.release (slotSetOf [3])) holder;
      s.Completes 6 (.release (slotSetOf [3])) s.afterSent ∧ s.onLine = true ∧ s.afterSent.OutputLaw ∧
      s.afterSent.output.phase = .on ∧ s.afterSent.timer.phase = .inSlot 3 0) :=
  ⟨heard (by decide), by decide, sent (n := .release (slotSetOf [3])) (s := holder) (by decide), by decide,
    by decide, by decide, by decide⟩

theorem witness_LeaveRemovesTheSender :
    ((hearing holder).Completes 1 .leave (hearing holder).afterHeard ∧ (hearing holder).onLine = true ∧
      (1 : StationId) ≠ (hearing holder).id) ∧
    (let s := sending .leave (station 3 .leaving);
      s.Completes 3 .leave s.afterSent ∧ s.member.station = .leaving ∧ (3 : StationId) = s.id) :=
  ⟨⟨heard (by decide), by decide, by decide⟩, sent (n := .leave) (s := station 3 .leaving) (by decide), by decide,
    by decide⟩

/-- A peer that announces what fits and what does not; and one whose new role takes the quorum away. -/
theorem witness_PresenceReconcilesTheSender :
    (hearing station6).Hears 13 (.presence ⟨.member, 2, 4, slotSetOf [5, 6, 7]⟩) ∧
    (hearing station6).onLine = true ∧
    (hearing holder).Hears 1 (.presence ⟨.joining, 0, 4, 0⟩) ∧ (hearing holder).onLine = true ∧
    (hearing holder).member.station = .member ∧ (hearing holder).cfg.quorum ≤ (hearing holder).liveCount := by
  decide

theorem witness_OwnPresenceRenewsStanding :
    let f : PresenceFields := ⟨.member, 2, 3, slotSetOf [3, 63]⟩
    let joining (n : Nat) : State := let s := station 6 .joining
      s.withMember { s.member with joiningCount := n }
    ((sending (.presence f) holder).Sends (.presence f) ∧
      (sending (.presence f) holder).member.station = .member) ∧
    ((sending (.presence f) (joining 4)).Sends (.presence f) ∧
      (sending (.presence f) (joining 4)).member.joiningCount <
        (sending (.presence f) (joining 4)).cfg.expiry) ∧
    ((sending (.presence f) (inGap (joining 5))).Sends (.presence f) ∧
      (sending (.presence f) (inGap (joining 5))).cfg.expiry ≤
        (sending (.presence f) (inGap (joining 5))).member.joiningCount ∧
      (sending (.presence f) (inGap (joining 5))).timer.phase = .inGap 0 401) ∧
    (sending (.presence f) (station 6 .leaving)).Sends (.presence f) := by decide

theorem witness_ClaimIsAdmittedSlotBySlot :
    (hearing claims).Hears 3 (.claim ⟨4, 0, slotSetOf [0, 63]⟩) ∧ (hearing claims).onLine = true ∧
    (hearing claims).member.station = .member ∧
    (hearing (station 3 .joining)).Hears 1 (.claim ⟨4, 0, slotSetOf [0]⟩) ∧
    (hearing (station 3 .joining)).onLine = true := by decide

theorem witness_OwnClaimTakesItsGrant :
    let c : ClaimFields := ⟨3, 2, slotSetOf [8, 9]⟩
    let s := sending (.claim c) (holder.withDemands [demand 1 3 1 true])
    let alone := sending (.claim c) (station 6 .member)
    let hold := s.withPlanner { s.planner with yieldHold := true }
    (s.Sends (.claim c) ∧ s.member.station = .member ∧ s.quorate = true ∧ s.planner.yieldHold = false ∧
      s.HoldingLaw ∧ s.HeldAmountLaw ∧ s.OutputLaw) ∧
    (alone.Sends (.claim c) ∧ alone.quorate = false) ∧
    (hold.Sends (.claim c) ∧ hold.quorate = true ∧ hold.planner.yieldHold = true) := by decide

/-- A notice under the own ID, not sent, in each state that listens; and each own notice that completes in
LEAVING. -/
theorem witness_NoticesThatAreNotApplied :
    let p : PresenceFields := ⟨.member, 0, 3, 0⟩
    let own (n : Notice) := sending n (station 3 .leaving)
    ((Notice.leave = .leave ∧ Instr.leaveComplete 6 = .leaveComplete 6) ∧ (hearing holder).Receives 6 .leave ∧
      6 = (hearing holder).id ∧ (hearing holder).onLine = true) ∧
    ((hearing (station 3 .joining)).Receives 3 .sag ∧ (hearing (station 3 .joining)).onLine = true) ∧
    ((station 3 .faulted).listens = false ∧ (station 3 .faulted).rstn = false ∧ State.reset.listens = false) ∧
    ((hearing (station 3 .lapsed)).Receives 1 .sag ∧ (hearing (station 3 .lapsed)).Receives 3 .leave ∧
      (hearing (station 3 .lapsed)).onLine = false) ∧
    ((hearing (station 3 .leaving)).Receives 1 .sag ∧ (hearing (station 3 .leaving)).Receives 3 .leave ∧
      (hearing (station 3 .leaving)).onLine = false) ∧
    ((own .leave).Sends .leave ∧ (own (.presence p)).Sends (.presence p) ∧
      (own (.claim ⟨3, 0, 1⟩)).Sends (.claim ⟨3, 0, 1⟩) ∧ (own (.release 1)).Sends (.release 1) ∧
      (3 : StationId) = (own .leave).id ∧ (own .leave).member.station = .leaving) := by
  refine ⟨?_, ?_, ?_, ?_, ?_, ?_⟩ <;> decide

/-- A MARK under the own ID, at a MEMBER, in JOINING, in LEAVING and in LAPSED. -/
theorem witness_NoticesThatAreNotApplied_mark :
    ((hearing holder).Receives (hearing holder).id (.mark (markOf 401 0)) ∧ (hearing holder).onLine = true ∧
      Agrees (markOf 401 0) (hearing holder).cfg ∧
      ¬ ((hearing holder).member.station = .member ∧
        (hearing holder).cfg.expiry ≤ (hearing holder).member.standing + 2)) ∧
    (let due := hearing (holder.withMember { holder.member with standing := 3 });
      due.Receives due.id (.mark { markOf 401 0 with budget := 11 }) ∧
      ¬ Agrees { markOf 401 0 with budget := 11 } due.cfg ∧ due.member.station = .member ∧
      due.cfg.expiry ≤ due.member.standing + 2) ∧
    ((hearing (station 3 .joining)).Receives 3 (.mark (markOf 401 0)) ∧
      (hearing (station 3 .joining)).onLine = true) ∧
    ((hearing (station 3 .leaving)).Receives 3 (.mark (markOf 401 0)) ∧
      (hearing (station 3 .leaving)).onLine = false) ∧
    ((hearing (station 3 .lapsed)).Receives 3 (.mark (markOf 401 0)) ∧
      (hearing (station 3 .lapsed)).onLine = false) := by decide

theorem witness_SlotBoundaryBeginsTheNextSlot :
    holder.rstn = false ∧ holder.timer.phase = .inSlot 3 0 ∧ (62 : SlotIndex).val + 1 < 64 ∧
    (driving 62 ⟨.on, true⟩).timer.phase = .inSlot 62 0 := by decide

theorem witness_PlanningPointPlansAndLatches :
    (cycle500.rstn = false ∧ cycle500.timer.phase = .inSlot 1 0 ∧ cycle500.timer.planningDue = true ∧
      cycle500.demands = ⟨21, 4, 3, 2, .spread, 0, 0, false⟩ :: [] ∧ cycle500.member.station = .member ∧
      cycle500.cfg.quorum ≤ cycle500.liveCount ∧ cycle500.planner.claimOutstanding = false ∧
      cycle500.planner.yieldHold = false ∧ cycle500.picks ⟨21, 4, 3, 2, .spread, 0, 0, false⟩ ≠ []) ∧
    (cycle500.withDemands []).demands = [] ∧ cycle500.snap.pending = false ∧
    (let s := cycle500.withSnap { cycle500.snap with pending := true };
      s.snap.pending = true ∧ s.onLine = true) := by decide

/-- PACK and SPREAD, with and without a reference slot. -/
theorem witness_PicksFollowThePlacement :
    (demand 21 4 3 false).placement = .pack ∧
    cycle500.picks ⟨21, 2, 1, 2, .spread, 0, 0, false⟩ = [] ++ 30 :: [62] ∧
    cycle500.picks ⟨21, 2, 1, 2, .spread, 0, 0, false⟩ = [30] ++ 62 :: [] ∧
    cycle500.isCandidate 16 = true ∧ (16 : SlotIndex) ∉ ([30] : List SlotIndex) ∧
    (([0, 40] : List SlotIndex) ≠ [] ∧ nearest [0, 40] 63 = 1) := by decide

theorem witness_GapEndsTheCycle : cycle504.rstn = false ∧ cycle504.timer.phase = .inSlot 63 0 := by decide

theorem witness_TimersChangeTheStationState :
    holder.rstn = false ∧
    ((inGap holder).timer.phase = .inGap 0 401 ∧ (inGap holder).member.station = .member) ∧
    ((inGap (station 3 .joining)).timer.phase = .inGap 0 401 ∧
      (inGap (station 3 .joining)).member.station ≠ .member) ∧
    (station 3 .joining).member.station = .joining ∧ (station 3 .lapsed).member.station = .lapsed := by decide

/-- The decisions at slots 3, 6 and 63 of Table 7-2. -/
theorem witness_OnAndTailPointsDecideTheOutput :
    ((driving 3 ⟨.lead, false⟩).rstn = false ∧ (driving 3 ⟨.lead, false⟩).timer.phase = .inSlot 3 0 ∧
      (driving 3 ⟨.lead, false⟩).output.phase = .lead ∧
      (driving 3 ⟨.lead, false⟩).cfg.quorum ≤ (driving 3 ⟨.lead, false⟩).liveCount ∧
      ∃ h ∈ (driving 3 ⟨.lead, false⟩).holdings, h.slot = 3 ∧ h.state = .active) ∧
    (¬ ∃ h ∈ (driving 6 ⟨.lead, false⟩).holdings, h.slot = 6 ∧ h.state = .active) ∧
    (driving 63 ⟨.on, false⟩).output.phase ≠ .lead ∧
    ((driving 62 ⟨.on, false⟩).output.phase = .on ∧ (driving 62 ⟨.on, false⟩).output.carry = false ∧
      ∃ j : SlotIndex, j.val = (62 : SlotIndex).val + 1 ∧
        ∃ h ∈ (driving 62 ⟨.on, false⟩).holdings, h.slot = j ∧ h.state = .active) ∧
    (¬ ∃ j : SlotIndex, j.val = (63 : SlotIndex).val + 1) ∧
    (driving 6 ⟨.lead, false⟩).output.phase ≠ .on := by decide

/-- A station that may begin, with each kind of notice at the front of its Outbox; one with a BREAK or a frame on
the line; and one with nothing to send, a CLAIM without a quorum among it. -/
theorem witness_AttemptTakesTheLowestKind :
    let s := quorateMember 3
    let e := Outbox.empty
    let offers (o : Outbox) (n : Notice) (rest : Outbox) := (s.withOutbox o).Offers n rest
    (s.rstn = false ∧ s.drives = true ∧ s.line.rx = .idle ∧ s.line.tx = .silent ∧ s.line.broken = none) ∧
    (s.withLine { s.line with rx := .brk }).line.rx ≠ .idle ∧ (hearing s).line.rx ≠ .idle ∧
    (s.withOutbox { e with inFlight := some .sag }).outbox.inFlight = some .sag ∧ e.inFlight = none ∧
    offers { e with mark := some 401, sag := true } (.mark (markOf 401 0)) { e with sag := true } ∧
    offers { e with sag := true, leave := true } .sag { e with leave := true } ∧
    offers { e with contest := some (1, 1), release := some 1 } (.contest 1 1) { e with release := some 1 } ∧
    offers { e with release := some 1, leave := true } (.release 1) { e with leave := true } ∧
    offers { e with leave := true, presence := true } .leave { e with presence := true } ∧
    offers { e with presence := true, claim := some 1 } (.presence ⟨.member, 0, 3, 0⟩) { e with claim := some 1 } ∧
    offers { e with claim := some 1 } (.claim ⟨3, 0, 1⟩) e ∧
    ((∀ n rest, ¬ offers e n rest) ∧
      ∀ n rest, ¬ ((station 3 .member).withOutbox { e with claim := some 1 }).Offers n rest) := by
  simp only [← State.nextNotice_none]
  simp only [← State.nextNotice_spec]
  decide

/-- The start pulse comes 40 and 41 periods early, to a station with a notice in flight, with one waiting, with
nothing to send, after a BREAK, and still waiting for its first idle. -/
theorem witness_StartPulseIsReceivedOrJoined :
    let s := idleFor 100 ((station 3 .member).withOutbox { Outbox.empty with inFlight := some .sag })
    let waiting := idleFor 100 ((station 3 .member).withOutbox { Outbox.empty with release := some 1 })
    let late := (station 3 .member).pass (Config.idleTicks - 40)
    (s.rstn = false ∧ s.listens = true ∧ s.line.rx = .idle ∧ s.line.tx = .silent ∧ s.line.broken = none) ∧
    (40 ≤ Config.idleTicks ∧ s.line.idleTime ≤ Config.idleTicks - 40) ∧
    (s.withLine { s.line with rx := .brk }).line.rx ≠ .idle ∧
    (s.pass (Config.idleTicks - 40 - s.line.idleTime)).line.awaitingIdle = false ∧
    (s.drives = true ∧ 40 ≤ Config.joinTicks ∧ s.outbox.inFlight.isSome = true) ∧
    (waiting.outbox.inFlight = none ∧ waiting.Offers (.release 1) Outbox.empty) ∧
    (idleFor 100 (station 3 .member)).outbox.inFlight = none ∧
    (∀ n rest, ¬ (idleFor 100 (station 3 .member)).Offers n rest) ∧
    Config.joinTicks < 41 ∧ (station 3 .lapsed).drives = false ∧ late.line.awaitingIdle = true := by
  simp only [← State.nextNotice_none]
  simp only [← State.nextNotice_spec]
  decide

theorem witness_LineEventsMoveTheController :
    ((sending .sag holder).rstn = false ∧ (sending .sag holder).line.tx = .sending ∧ true ≠ false) ∧
    ((hearing holder).line.rx = .frame ∧ (hearing holder).line.tx = .silent ∧
      isReceiveError (.edge 79) = true ∧ isReceiveError (.edge 241) = true ∧ isReceiveError (.dominant 320) = true ∧
      (hearing holder).drives = true) ∧
    (isReceiveError (.edge 80) = false ∧ isReceiveError (.edge 240) = false ∧
      isReceiveError (.dominant 160) = false ∧ isReceiveError (.dominant 321) = false ∧
      isReceiveError .gapEdge = true ∧ isReceiveError (.truncated (List.replicate 11 false)) = true ∧
      isReceiveError (.frame (List.replicate 12 true)) = true) ∧
    (hearing (station 3 .lapsed)).member.station = .lapsed ∧
    (let s := holder.withLine { holder.line with tx := .breaking false };
      s.line.tx = .breaking false) ∧
    (let s := holder.withLine { holder.line with tx := .breaking true, receiveFaults := 15 };
      s.line.tx = .breaking true ∧ s.onLine = true ∧
        min Config.receiveFaultLimit (s.line.receiveFaults + 1) = Config.receiveFaultLimit) ∧
    (let s := holder.withLine { holder.line with rx := .brk };
      (∀ b, s.line.tx ≠ .breaking b) ∧ s.listens = true ∧ s.line.rx = .brk) ∧
    (holder.listens = true ∧ (sending .sag holder).listens = true) := by decide

theorem witness_FailuresFollowTheirCounts :
    ((holder.withLine { holder.line with tx := .breaking true }).line.tx = .breaking true ∧
      (∀ b, (broken .sag 2 true holder).line.tx ≠ .breaking b) ∧
      ∀ b, (sending .sag holder).line.tx ≠ .breaking b) ∧
    (let s := broken .sag 2 true holder;
      s.rstn = false ∧ s.outbox.inFlight = some .sag ∧ s.line.broken = some true ∧ s.line.attempts < 3 ∧
      s.line.clashes = 0) ∧
    (let s := broken .sag 3 true holder;
      let s := s.withLine { s.line with clashes := 1 };
      s.line.broken = some true ∧ 1 ≤ s.line.clashes ∧ s.onLine = true) ∧
    (let s := broken .sag 3 false holder;
      s.line.broken = some false ∧ 3 ≤ s.line.attempts) ∧
    (let s := broken .leave 3 true (station 3 .leaving);
      let s := s.withLine { s.line with clashes := 1 };
      s.outbox.inFlight = some .leave ∧ s.line.broken = some true ∧ s.onLine = false ∧ 3 ≤ s.line.attempts) ∧
    (let s := broken .sag 3 true holder;
      s.line.clashes = 0 ∧ 3 ≤ s.line.attempts) ∧
    ((sending .sag holder).outbox.inFlight = some .sag ∧ (sending .sag holder).line.broken = none ∧
      (sending .sag holder).line.tx = .sending) ∧
    ((broken (.mark (markOf 401 0)) 4 false (inGap holder)).outbox.inFlight = some (.mark (markOf 401 0)) ∧
      4 ≤ (broken (.mark (markOf 401 0)) 4 false (inGap holder)).line.attempts) ∧
    (broken (.contest 1 1) 4 false holder).outbox.inFlight = some (.contest 1 1) ∧
    ((broken (.release 1) 4 false holder).outbox.inFlight = some (.release 1) ∧ (1 : SlotSet) ≠ 0) ∧
    (broken .leave 4 false (station 3 .leaving)).outbox.inFlight = some .leave ∧
    (broken (.presence ⟨.member, 0, 3, 0⟩) 4 false holder).outbox.inFlight =
      some (.presence ⟨.member, 0, 3, 0⟩) ∧
    (broken (.claim ⟨3, 0, 1⟩) 4 false holder).outbox.inFlight = some (.claim ⟨3, 0, 1⟩) ∧
    (let s := holder.withLine { holder.line with clashes := 2, receiveFaults := 16 };
      s.onLine = true ∧ 2 ≤ s.line.clashes ∧ 16 ≤ s.line.receiveFaults) := by decide

/-- Notices at the ends of their ranges; bits that stop before the twelfth, with a length above 11, with one that is
not the kind's, before the end of the payload and of the check, and with a check that fails; and the bits of station
4's SAG, written out. -/
theorem witness_FramesCarryTheirNotice :
    let sag := frameBits 4 .sag
    let number (bits : List Bool) : Nat := Nat.ofDigits 2 (bits.reverse.map Bool.toNat)
    (noticeWellFormed 9 (.release (slotSetOf [10, 11])) = true ∧
      noticeWellFormed 0 (.mark (markOf 65535 14)) = true ∧
      noticeWellFormed 31 (.claim ⟨255, 3, slotSetOf [63]⟩) = true ∧ noticeWellFormed 4 .sag = true) ∧
    ((sag.take 11).length < 12 ∧ 12 ≤ (sag.take 12).length) ∧
    12 ≤ number (((bitsOf 8 36 ++ bitsOf 4 12).drop 8).take 4) ∧
    number (((bitsOf 8 36 ++ bitsOf 4 11).drop 8).take 4) = 11 ∧
    (number (sag.take 3) = 1 ∧ number ((sag.drop 8).take 4) = 0 ∧ bodyBits 4 .sag = sag.take 12) ∧
    sag.take 12 = [false, false, true, false, false, true, false, false, false, false, false, false] ∧
    ((sag.take 27).length < 28 ∧ 28 ≤ sag.length) ∧
    judge (sag.take 27 ++ [!(sag.getD 27 false)]) = .badCheck := by decide

theorem witness_MembershipLawsAreKept :
    holder.SetupLaw ∧ holder.HoldingLaw ∧ holder.RestLaw ∧ holder.StandingLaw ∧ holder.ServedLaw ∧
    ∃ t, step holder = .next t :=
  ⟨holder_safe.setup, holder_safe.holdings, holder_safe.rest, holder_safe.standing, holder_safe.served, _, rfl⟩

theorem witness_MapLawsAreKept :
    holder.SetupLaw ∧ holder.RestLaw ∧ holder.BudgetLaw ∧ holder.HolderListLaw ∧ ∃ t, step holder = .next t :=
  ⟨holder_safe.setup, holder_safe.rest, holder_safe.budget, holder_safe.holderLists, _, rfl⟩

theorem witness_OrphanLawIsKept : holder.OrphanLaw ∧ ∃ t, step holder = .next t :=
  ⟨holder_safe.orphans, _, rfl⟩

theorem witness_HoldingLawIsKept : holder.HoldingLaw ∧ ∃ t, step holder = .next t :=
  ⟨holder_safe.holdings, _, rfl⟩

theorem witness_HeldAmountLawIsKept : holder.HeldAmountLaw ∧ ∃ t, step holder = .next t :=
  ⟨holder_safe.heldAmount, _, rfl⟩

theorem witness_QueueLawsAreKept : holder.DemandLaw ∧ holder.NoteLaw ∧ ∃ t, step holder = .next t :=
  ⟨holder_safe.demands, holder_safe.notes, _, rfl⟩

theorem witness_OutputLawIsKept : holder.OutputLaw ∧ holder.loadout = .on ∧ ∃ t, step holder = .next t :=
  ⟨holder_safe.output, by decide, _, rfl⟩

theorem witness_LineLawsAreKept :
    holder.DriveLaw ∧ holder.LineRanges ∧ holder.ClosingLaw ∧ ∃ t, step holder = .next t :=
  ⟨holder_safe.drive, holder_safe.lineRanges, holder_safe.closing, _, rfl⟩

theorem witness_ClaimLawIsKept : holder.ClaimLaw ∧ ∃ t, step holder = .next t :=
  ⟨holder_safe.claims, _, rfl⟩

theorem witness_EveryStepIsSafe : holder.Safe ∧ ∃ t, step holder = .next t := ⟨holder_safe, _, rfl⟩

end Sys2Proof.Tests
end

section
/-!
PROOF. Notices of other stations: what a LEAVE (R14, R53, R74) and a CLAIM from another station (R7, R49) make of
the Slot Map and the Peer Table.
-/

namespace Sys2Proof.Machine

/-! ### Tables -/

/-- Writing an entry back to its own place changes nothing. -/
@[simp] theorem Table.set_get_self {α : Type} {n : Nat} (t : Table α n) (i : Fin n) :
    t.set i (t.get i) = t := by
  ext j
  rw [Table.get_set]
  split
  · next h => rw [h]
  · rfl

/-! ### Completion -/

/-- Another station's notice is handed, once its frame has ended, to the meaning for others' notices (R136). -/
theorem State.complete_of_hears {s : State} {p : StationId} {n : Notice} (own other : State → State)
    (h : s.Hears p n) : s.unlessHeld (State.complete p n own other) = other s.afterHeard := by
  have hrstn : s.rstn = false := h.1.1
  simp [State.unlessHeld, hrstn, State.complete, State.landing_of_hears h]

/-- The own notice is handed, once its flight has ended, to the meaning for own notices (R136, R141). -/
theorem State.complete_of_sends {s : State} {n : Notice} (own other : State → State) (h : s.Sends n) :
    s.unlessHeld (State.complete s.id n own other) = own s.afterSent := by
  have hrstn : s.rstn = false := h.1
  simp [State.unlessHeld, hrstn, State.complete, State.landing_of_sends h]

/-- A notice that completes under another station's ID is one that was heard (R141). -/
theorem State.Completes.hears_of_ne {s u : State} {p : StationId} {n : Notice} (h : s.Completes p n u)
    (hp : p ≠ s.id) : s.Hears p n ∧ u = s.afterHeard := by
  obtain hears | ⟨_, hid, _⟩ := h
  · exact hears
  · exact absurd hid hp

/-- A notice that completes under the own ID is one that was sent (R141). -/
theorem State.Completes.sends_of_eq {s u : State} {p : StationId} {n : Notice} (h : s.Completes p n u)
    (hp : p = s.id) : s.Sends n ∧ u = s.afterSent := by
  obtain ⟨hears, _⟩ | ⟨sends, _, hu⟩ := h
  · exact absurd hp hears.2
  · exact ⟨sends, hu⟩

/-! ### LEAVE -/

/-- A LEAVE heard from another station is applied by `leaveApplies`. -/
theorem exec_leaveComplete_of_hears {s : State} {p : StationId} (h : s.Hears p .leave) :
    exec (.leaveComplete p) s = .next (s.afterHeard.leaveApplies p) :=
  congrArg Host.Outcome.next (State.complete_of_hears State.ownLeaveApplies (State.leaveApplies p) h)

/-- The own LEAVE, sent to its end, is applied by `ownLeaveApplies`. -/
theorem exec_leaveComplete_of_sends {s : State} (h : s.Sends .leave) :
    exec (.leaveComplete s.id) s = .next s.afterSent.ownLeaveApplies :=
  congrArg Host.Outcome.next (State.complete_of_sends State.ownLeaveApplies (State.leaveApplies s.id) h)

/-- The entry of a station that has left: ABSENT, with silence count 0 where it was LIVE (R53). -/
def PeerEntry.left (e : PeerEntry) : PeerEntry :=
  { e with live := false, silence := if e.live then 0 else e.silence }

/-- An entry that is ABSENT already stays as it is (R53). -/
theorem PeerEntry.left_of_absent {e : PeerEntry} (h : e.live = false) : e.left = e := by
  cases e
  simp_all [PeerEntry.left]

/-- A LEAVE at a JOINING or MEMBER station, with LIVE and ABSENT senders said as one (R14, R53, R56). -/
theorem State.leaveApplies_of_onLine {s : State} (p : StationId) (h : s.onLine = true) :
    s.leaveApplies p = ((s.withMap (s.map.removeStation p)).withPeers
      (s.peers.set p (s.peers.get p).left)).afterLive s.liveCount := by
  unfold State.leaveApplies
  rw [if_pos h]
  cases hlive : (s.peers.get p).live with
  | true => simp [PeerEntry.left, hlive]
  | false =>
    simp only [hlive, Bool.false_eq_true, if_false, PeerEntry.left_of_absent hlive, Table.set_get_self]
    rfl

/-- The own LEAVE brings a LEAVING station to OFFLINE with everything that R74 names cleared, and the STATE record
gives no live count. -/
theorem State.ownLeaveApplies_of_leaving {s : State} (h : s.member.station = .leaving) :
    s.ownLeaveApplies = State.note (.state .offline .hostLeave 0)
      (((((((s.withMap SlotMap.cleared).withPeers PeerTable.cleared).withOutbox Outbox.empty).withLine
        LineController.cleared).withTimer CycleTimer.cleared).withSag
          { s.sag with derateRemaining := 0, windowOpen := false }).withMember
            { s.member with station := .offline }) := by
  unfold State.ownLeaveApplies State.endLeaving State.noteState
  rw [if_pos h]
  simp [State.reportedLive, State.onLine]

/-- Settles O34: another's LEAVE by `leaveApplies_of_onLine`, the own one by `ownLeaveApplies_of_leaving`. -/
theorem leaveRemovesTheSender : Obligations.LeaveRemovesTheSender := by
  intro s u p completes
  constructor
  · intro online hp
    obtain ⟨hears, rfl⟩ := completes.hears_of_ne hp
    refine ⟨s.map.removeStation p, SlotMap.get_removeStation p s.map, ?_⟩
    rw [exec_leaveComplete_of_hears hears, State.leaveApplies_of_onLine (s := s.afterHeard) p online]
    rfl
  · intro leaving hp
    obtain ⟨sends, rfl⟩ := completes.sends_of_eq hp
    rw [hp, exec_leaveComplete_of_sends sends,
      State.ownLeaveApplies_of_leaving (s := s.afterSent) leaving]
    rfl

/-! ### CLAIM from another station -/

/-- A CLAIM heard from another station is applied by `claimApplies`. -/
theorem exec_claimComplete_of_hears {s : State} {p : StationId} {c : ClaimFields}
    (h : s.Hears p (.claim c)) :
    exec (.claimComplete p c) s = .next (s.afterHeard.claimApplies p c) :=
  congrArg Host.Outcome.next (State.complete_of_hears (State.ownClaimApplies c) (State.claimApplies p c) h)

/-- A named slot takes the record where it fits, and is skipped or refused otherwise (R7, Table 1-3). -/
theorem append_if_fits_eq_admitted (b : Nat) (p : StationId) (units : Nat) (e : SlotEntry) :
    (if fits b p units e then append p units e else e) = admitted b p units e := by
  have hfits : fits b p units e = true ↔
      ¬ ((∃ r ∈ e, r.station = p) ∨ b < (e.map HolderRecord.units).sum + units) := by
    rw [fits_iff, List.mem_map, not_or, not_lt]
    rfl
  unfold admitted
  by_cases h : fits b p units e = true
  · rw [if_pos h, if_neg (hfits.1 h)]
    rfl
  · rw [if_neg h, if_pos (not_not.1 (mt hfits.2 h))]

/-- CLAIM admission, slot by slot, in the terms of Table 1-3 (R7). -/
theorem SlotMap.get_admission_eq_admitted (b : Nat) (p : StationId) (units : Nat) (x : SlotSet) (m : SlotMap)
    (k : SlotIndex) :
    (m.admission b p units x).get k = if slotIn x k then admitted b p units (m.get k) else m.get k := by
  rw [SlotMap.get_admission, ← append_if_fits_eq_admitted]
  cases slotIn x k <;> rfl

/-- The Slot Map after a CLAIM of another station: a MEMBER alone admits it (R5, R7). -/
def State.mapAfterClaim (p : StationId) (c : ClaimFields) (s : State) : SlotMap :=
  if s.member.station = .member then s.map.admission s.beff p c.units c.slots else s.map

/-- The Peer Table after a CLAIM of another station: a LIVE sender's priority is set (R49). -/
def State.peersAfterClaim (p : StationId) (c : ClaimFields) (s : State) : PeerTable :=
  if (s.peers.get p).live then s.peers.set p { s.peers.get p with priority := c.priority } else s.peers

/-- A CLAIM of another station changes the Slot Map and the Peer Table alone (R7, R49). -/
theorem State.claimApplies_of_onLine {s : State} (p : StationId) (c : ClaimFields) (h : s.onLine = true) :
    s.claimApplies p c = (s.withMap (s.mapAfterClaim p c)).withPeers (s.peersAfterClaim p c) := by
  have hpeers : (if (s.peers.get p).live then
        s.withPeers (s.peers.set p { s.peers.get p with priority := c.priority }) else s) =
      s.withPeers (s.peersAfterClaim p c) := by
    unfold State.peersAfterClaim
    split <;> rfl
  unfold State.claimApplies State.mapAfterClaim
  dsimp only
  rw [if_pos h, hpeers, State.member_withPeers]
  split <;> rfl

/-- Each slot of the map after a CLAIM of another station (R5, R7). -/
theorem State.get_mapAfterClaim (p : StationId) (c : ClaimFields) (s : State) (k : SlotIndex) :
    (s.mapAfterClaim p c).get k =
      if s.member.station = .member ∧ slotIn c.slots k = true then
        admitted s.beff p c.units (s.map.get k)
      else s.map.get k := by
  unfold State.mapAfterClaim
  by_cases hmember : s.member.station = .member
  · rw [if_pos hmember, SlotMap.get_admission_eq_admitted]
    simp only [hmember, true_and]
  · rw [if_neg hmember, if_neg fun h => hmember h.1]

/-- Each entry of the Peer Table after a CLAIM of another station (R49). -/
theorem State.get_peersAfterClaim (p : StationId) (c : ClaimFields) (s : State) (q : StationId) :
    (s.peersAfterClaim p c).get q =
      if q = p ∧ (s.peers.get p).live = true then { s.peers.get q with priority := c.priority }
      else s.peers.get q := by
  unfold State.peersAfterClaim
  by_cases hlive : (s.peers.get p).live = true
  · rw [if_pos hlive, Table.get_set]
    by_cases hq : q = p
    · subst hq
      rw [if_pos rfl, if_pos ⟨rfl, hlive⟩]
    · rw [if_neg hq, if_neg fun h => hq h.1]
  · rw [if_neg hlive, if_neg fun h => hlive h.2]

/-- Settles O37: the map by `get_mapAfterClaim`, the Peer Table by `get_peersAfterClaim`, and nothing else changes
by `claimApplies_of_onLine`. -/
theorem claimIsAdmittedSlotBySlot : Obligations.ClaimIsAdmittedSlotBySlot := by
  intro s u p c hears hu online
  subst hu
  refine ⟨s.mapAfterClaim p c, s.peersAfterClaim p c, s.get_mapAfterClaim p c, s.get_peersAfterClaim p c, ?_⟩
  rw [exec_claimComplete_of_hears hears, State.claimApplies_of_onLine (s := s.afterHeard) p c online]
  rfl

end Sys2Proof.Machine
end

section
/-!
PROOF. Claim planning: which slots are candidates (R95) and which of them the planner picks under PACK (R96) and
under SPREAD (R97).
-/

namespace Sys2Proof.Machine

/-! ### The best of a list -/

/-- `bestBy` is the library's first maximiser. -/
theorem bestBy_eq_argmax (measure : SlotIndex → Nat) (ks : List SlotIndex) :
    bestBy measure ks = ks.argmax measure := by
  induction ks with
  | nil => rfl
  | cons k ks ih =>
    rw [List.argmax_cons, ← ih, bestBy]
    cases bestBy measure ks <;> rfl

/-- `leastBy` is the library's first minimiser. -/
theorem leastBy_eq_argmin (measure : SlotIndex → Nat) (ks : List SlotIndex) :
    leastBy measure ks = ks.argmin measure := by
  induction ks with
  | nil => rfl
  | cons k ks ih =>
    rw [List.argmin_cons, ← ih, leastBy]
    cases leastBy measure ks <;> rfl

/-- Of two elements of an ascending list, the one that stands first is the lower. -/
theorem le_of_idxOf_le {ks : List SlotIndex} {k j : SlotIndex} (sorted : ks.Pairwise (· < ·)) (hk : k ∈ ks)
    (hj : j ∈ ks) (h : ks.idxOf k ≤ ks.idxOf j) : k ≤ j := by
  have mono := sorted.sortedLT.strictMono_get.monotone (a := ⟨_, List.idxOf_lt_length_of_mem hk⟩)
    (b := ⟨_, List.idxOf_lt_length_of_mem hj⟩) h
  simpa using mono

/-- In an ascending list no element equals the first maximiser in value and has a lower index. -/
theorem lt_or_eq_of_mem_argmax {β : Type} [LinearOrder β] {f : SlotIndex → β} {ks : List SlotIndex}
    {k j : SlotIndex} (sorted : ks.Pairwise (· < ·)) (hk : k ∈ ks.argmax f) (hj : j ∈ ks) :
    f j < f k ∨ (f j = f k ∧ k ≤ j) := by
  obtain ⟨hmem, hmax, hfirst⟩ := List.mem_argmax_iff.1 hk
  obtain hlt | heq := (hmax j hj).lt_or_eq
  · exact .inl hlt
  · exact .inr ⟨heq, le_of_idxOf_le sorted hmem hj (hfirst j hj heq.ge)⟩

/-- In an ascending list no element equals the first minimiser in value and has a lower index: the dual order. -/
theorem lt_or_eq_of_mem_argmin {f : SlotIndex → Nat} {ks : List SlotIndex} {k j : SlotIndex}
    (sorted : ks.Pairwise (· < ·)) (hk : k ∈ ks.argmin f) (hj : j ∈ ks) :
    f k < f j ∨ (f k = f j ∧ k ≤ j) :=
  (lt_or_eq_of_mem_argmax (f := OrderDual.toDual ∘ f) sorted hk hj).imp id fun h => ⟨h.1.symm, h.2⟩

/-! ### The nearest reference slot -/

theorem cyclicDistance_lt (a b : SlotIndex) : cyclicDistance a b < 64 := by
  simp only [cyclicDistance]
  omega

/-- `nearest` is the greatest number within 64 and every distance to a reference slot (R97). -/
theorem le_nearest_iff {n : Nat} {refs : List SlotIndex} {k : SlotIndex} :
    n ≤ nearest refs k ↔ n ≤ 64 ∧ ∀ r ∈ refs, n ≤ cyclicDistance k r := by
  unfold nearest
  generalize 64 = d
  induction refs generalizing d with
  | nil => simp
  | cons r refs ih => simp [ih, and_assoc]

theorem nearest_le_of_mem {refs : List SlotIndex} {r : SlotIndex} (k : SlotIndex) (h : r ∈ refs) :
    nearest refs k ≤ cyclicDistance k r :=
  (le_nearest_iff.1 le_rfl).2 r h

/-- The nearest distance is reached at a reference slot: else the next number would still be a bound. -/
theorem exists_nearest_eq {refs : List SlotIndex} (k : SlotIndex) (h : refs ≠ []) :
    ∃ r ∈ refs, nearest refs k = cyclicDistance k r := by
  by_contra! hne
  have above (r) (hr : r ∈ refs) : nearest refs k < cyclicDistance k r :=
    (nearest_le_of_mem k hr).lt_of_ne (hne r hr)
  obtain ⟨r, hr⟩ := List.exists_mem_of_ne_nil refs h
  have below : nearest refs k < 64 := (above r hr).trans (cyclicDistance_lt k r)
  exact Nat.not_succ_le_self _ (le_nearest_iff.2 ⟨below, above⟩)

/-- The order of the reference slots does not matter. -/
theorem nearest_congr {refs refs' : List SlotIndex} (h : ∀ r, r ∈ refs ↔ r ∈ refs') :
    nearest refs = nearest refs' := by
  funext k
  refine eq_of_forall_le_iff fun n => ?_
  simp only [le_nearest_iff, h]

/-! ### One SPREAD pick -/

theorem pickOne_eq_none_iff {load : SlotIndex → Nat} {refs cands : List SlotIndex} :
    pickOne load refs cands = none ↔ cands = [] := by
  unfold pickOne
  split
  · rw [leastBy_eq_argmin, List.argmin_eq_none]
  · rw [bestBy_eq_argmax, List.argmax_eq_none]

/-- With no reference slots the pick is the least loaded candidate (R97). -/
theorem pickOne_without_refs (load : SlotIndex → Nat) (cands : List SlotIndex) :
    pickOne load [] cands = cands.argmin load :=
  leastBy_eq_argmin load cands

/-- With reference slots the pick is the candidate farthest from its nearest one (R97). -/
theorem pickOne_of_refs (load : SlotIndex → Nat) {refs : List SlotIndex} (cands : List SlotIndex)
    (h : refs ≠ []) : pickOne load refs cands = cands.argmax (nearest refs) := by
  rw [pickOne, if_neg h, bestBy_eq_argmax]

theorem pickOne_mem {load : SlotIndex → Nat} {refs cands : List SlotIndex} {k : SlotIndex}
    (h : pickOne load refs cands = some k) : k ∈ cands := by
  by_cases hrefs : refs = []
  · rw [hrefs, pickOne_without_refs] at h
    exact List.argmin_mem h
  · rw [pickOne_of_refs load cands hrefs] at h
    exact List.argmax_mem h

/-! ### SPREAD picks -/

/-- A round of SPREAD with a candidate left: the pick joins the reference slots and leaves the candidates. -/
theorem pickSpread_succ_of_pick {load : SlotIndex → Nat} {refs cands : List SlotIndex} {k : SlotIndex} (n : Nat)
    (h : pickOne load refs cands = some k) : pickSpread load (n + 1) refs cands =
      k :: pickSpread load n (k :: refs) (cands.filter fun j => j != k) := by
  rw [pickSpread, h]

/-- Without candidates nothing is picked. -/
@[simp] theorem pickSpread_nil (load : SlotIndex → Nat) (n : Nat) (refs : List SlotIndex) :
    pickSpread load n refs [] = [] := by
  cases n with
  | zero => rfl
  | succ n => rw [pickSpread, pickOne_eq_none_iff.2 rfl]

/-- A candidate and the candidates that its pick leaves. -/
theorem perm_cons_filter_ne {cands : List SlotIndex} {k : SlotIndex} (nodup : cands.Nodup) (h : k ∈ cands) :
    cands.Perm (k :: cands.filter fun j => j != k) :=
  nodup.erase_eq_filter k ▸ List.perm_cons_erase h

/-- Induction along the rounds of SPREAD: no round, no candidate left, or a pick and the rounds after it. -/
theorem pickSpread_induction {load : SlotIndex → Nat} {P : Nat → List SlotIndex → List SlotIndex → Prop}
    (zero : ∀ refs cands, P 0 refs cands) (none_left : ∀ n refs, P n refs [])
    (pick : ∀ n refs cands k, pickOne load refs cands = some k →
      P n (k :: refs) (cands.filter fun j => j != k) → P (n + 1) refs cands) :
    ∀ n refs cands, P n refs cands := by
  intro n
  induction n with
  | zero => exact zero
  | succ n ih =>
    intro refs cands
    cases h : pickOne load refs cands with
    | none => exact pickOne_eq_none_iff.1 h ▸ none_left _ refs
    | some k => exact pick n refs cands k h (ih _ _)

/-- The picks are candidates, each picked at most once. -/
theorem pickSpread_subperm (load : SlotIndex → Nat) (n : Nat) (refs cands : List SlotIndex)
    (nodup : cands.Nodup) : (pickSpread load n refs cands).Subperm cands := by
  induction n, refs, cands using pickSpread_induction (load := load) with
  | zero => exact List.nil_subperm
  | none_left => simp
  | pick n refs cands k h ih =>
    rw [pickSpread_succ_of_pick n h, (perm_cons_filter_ne nodup (pickOne_mem h)).subperm_left]
    exact (List.subperm_cons k).2 (ih (nodup.filter _))

/-- As many picks as wanted, or all candidates (R97). -/
theorem length_pickSpread (load : SlotIndex → Nat) (n : Nat) (refs cands : List SlotIndex)
    (nodup : cands.Nodup) : (pickSpread load n refs cands).length = min n cands.length := by
  induction n, refs, cands using pickSpread_induction (load := load) with
  | zero => simp [pickSpread]
  | none_left => simp
  | pick n refs cands k h ih =>
    rw [pickSpread_succ_of_pick n h, (perm_cons_filter_ne nodup (pickOne_mem h)).length_eq, List.length_cons,
      List.length_cons, ih (nodup.filter _), Nat.succ_min_succ]

/-- Each pick is `pickOne` of the candidates not yet picked, with the picks before it among the reference slots. -/
theorem pickOne_of_pickSpread_eq_append {load : SlotIndex → Nat} {n : Nat} {refs cands before after : List SlotIndex}
    {k : SlotIndex} (h : pickSpread load n refs cands = before ++ k :: after) :
    pickOne load (before.reverse ++ refs) (cands.filter fun j => j ∉ before) = some k := by
  induction n, refs, cands using pickSpread_induction (load := load) generalizing before with
  | zero => simp [pickSpread] at h
  | none_left => simp at h
  | pick n refs cands i hi ih =>
    rw [pickSpread_succ_of_pick n hi] at h
    cases before with
    | nil =>
      obtain ⟨rfl, -⟩ := List.cons.inj h
      simpa using hi
    | cons b before =>
      obtain ⟨rfl, htail⟩ := List.cons.inj h
      have hrest : (cands.filter fun j => j != i).filter (fun j => j ∉ before) =
          cands.filter fun j => j ∉ i :: before := by
        rw [List.filter_filter]
        exact List.filter_congr fun j _ => by rw [Bool.eq_iff_iff]; simp [and_comm]
      rw [List.reverse_cons, List.append_assoc, List.singleton_append, ← hrest]
      exact ih htail

/-! ### Candidates and picks -/

/-- The held slots are those of the Holding List entries that are not RELEASING. -/
theorem State.heldSlots_eq (s : State) :
    s.heldSlots = (s.holdings.filter fun h => decide (h.state ≠ .releasing)).map Holding.slot := by
  have held (h : Holding) : h.held = decide (h.state ≠ .releasing) := by
    rw [Bool.eq_iff_iff, Holding.held_iff, decide_eq_true_iff]
  simp only [State.heldSlots, ← held]

theorem State.length_heldSlots (s : State) : s.heldSlots.length = s.heldCount := List.length_map _

/-- The candidates in the terms of R95. -/
theorem State.mem_candidates_iff (s : State) (k : SlotIndex) :
    k ∈ s.candidates ↔
      (∀ r ∈ s.map.get k, r.station ≠ s.id) ∧ committed (s.map.get k) + s.cfg.load ≤ s.beff := by
  simp [State.candidates, State.isCandidate, fits_iff]

theorem State.candidates_sorted (s : State) : s.candidates.Pairwise (· < ·) :=
  (List.sortedLT_finRange 64).pairwise.filter _

theorem State.candidates_nodup (s : State) : s.candidates.Nodup := allSlots_nodup.filter _

/-- PACK takes the front of the candidates (R96). -/
theorem State.picks_of_pack {d : Demand} (s : State) (h : d.placement = .pack) :
    s.picks d = s.candidates.take (d.want - s.heldCount) := by
  simp [State.picks, h]

/-- SPREAD picks one at a time, with the held slots as first reference slots (R97). -/
theorem State.picks_of_spread {d : Demand} (s : State) (h : d.placement = .spread) :
    s.picks d = pickSpread (fun k => committed (s.map.get k)) (d.want - s.heldCount) s.heldSlots s.candidates := by
  simp [State.picks, h]

/-- The picks are candidates, each picked at most once, under either placement. -/
theorem State.picks_subperm (d : Demand) (s : State) : (s.picks d).Subperm s.candidates := by
  cases h : d.placement with
  | pack => exact s.picks_of_pack h ▸ (List.take_sublist _ _).subperm
  | spread => exact s.picks_of_spread h ▸ pickSpread_subperm _ _ _ _ s.candidates_nodup

theorem State.picks_nodup (d : Demand) (s : State) : (s.picks d).Nodup := by
  obtain ⟨l, perm, sub⟩ := s.picks_subperm d
  exact perm.nodup_iff.1 (s.candidates_nodup.sublist sub)

/-- As many picks as wanted, or all candidates, under either placement (R96, R97). -/
theorem State.length_picks (d : Demand) (s : State) :
    (s.picks d).length = min (d.want - s.heldCount) s.candidates.length := by
  cases h : d.placement with
  | pack => rw [s.picks_of_pack h, List.length_take]
  | spread => rw [s.picks_of_spread h, length_pickSpread _ _ _ _ s.candidates_nodup]

/-- PACK picks in ascending index (R96). -/
theorem State.picks_sorted_of_pack {d : Demand} (s : State) (h : d.placement = .pack) :
    (s.picks d).Pairwise (· < ·) :=
  s.picks_of_pack h ▸ s.candidates_sorted.take

/-- Under PACK every pick lies below every candidate that is not picked (R96). -/
theorem State.lt_of_mem_picks_of_pack {d : Demand} {s : State} {k j : SlotIndex} (h : d.placement = .pack)
    (hk : k ∈ s.picks d) (hj : j ∈ s.candidates) (hout : j ∉ s.picks d) : k < j := by
  rw [s.picks_of_pack h] at hk hout
  have sorted := s.candidates_sorted
  rw [← List.take_append_drop (d.want - s.heldCount) s.candidates] at hj sorted
  have hdrop := (List.mem_append.1 hj).resolve_left hout
  exact (List.pairwise_append.1 sorted).2.2 k hk j hdrop

/-- A SPREAD pick against a candidate not picked before it (R97). -/
theorem State.spread_pick_ahead {d : Demand} {s : State} {before after : List SlotIndex} {k j : SlotIndex}
    (h : d.placement = .spread) (hpicks : s.picks d = before ++ k :: after) (hj : j ∈ s.candidates)
    (hnew : j ∉ before) :
    (before ++ s.heldSlots = [] → committed (s.map.get k) < committed (s.map.get j) ∨
      (committed (s.map.get k) = committed (s.map.get j) ∧ k ≤ j)) ∧
    (before ++ s.heldSlots ≠ [] → nearest (before ++ s.heldSlots) j < nearest (before ++ s.heldSlots) k ∨
      (nearest (before ++ s.heldSlots) j = nearest (before ++ s.heldSlots) k ∧ k ≤ j)) := by
  rw [s.picks_of_spread h] at hpicks
  have pick := pickOne_of_pickSpread_eq_append hpicks
  have hleft : j ∈ s.candidates.filter fun j => j ∉ before := by simp [hj, hnew]
  have sorted := s.candidates_sorted.filter fun j => j ∉ before
  constructor
  · intro hrefs
    obtain ⟨rfl, hheld⟩ := List.append_eq_nil_iff.1 hrefs
    rw [hheld, List.reverse_nil, List.append_nil, pickOne_without_refs] at pick
    exact lt_or_eq_of_mem_argmin sorted pick hleft
  · intro hrefs
    rw [pickOne_of_refs _ _ (by simpa using hrefs)] at pick
    rw [nearest_congr (refs' := before.reverse ++ s.heldSlots) (by simp)]
    exact lt_or_eq_of_mem_argmax sorted pick hleft

/-- Settles O42: the count by `length_picks`, PACK by `lt_of_mem_picks_of_pack` and SPREAD by
`spread_pick_ahead`. -/
theorem picksFollowThePlacement : Obligations.PicksFollowThePlacement := by
  intro d s
  rw [← s.heldSlots_eq]
  intro held want beff isCandidate distance
  have candidate_iff : ∀ k, k ∈ s.candidates ↔ isCandidate k := s.mem_candidates_iff
  refine ⟨fun refs k hrefs => ⟨exists_nearest_eq k hrefs, fun r hr => nearest_le_of_mem k hr⟩, candidate_iff, ?_,
    State.picks_nodup d s,
    fun k hk => (candidate_iff k).1 ((s.picks_subperm d).subset hk), ?_, ?_⟩
  · rw [s.length_picks, ← s.length_heldSlots]
  · intro pack
    exact ⟨s.picks_sorted_of_pack pack, fun k hk j hj hout =>
      State.lt_of_mem_picks_of_pack pack hk ((candidate_iff j).2 hj) hout⟩
  · intro spread before k after hpicks refs j hj hnew
    exact State.spread_pick_ahead spread hpicks ((candidate_iff j).2 hj) hnew

end Sys2Proof.Machine
end

section
/-!
PROOF. Host commands that are answered OK in every station state: NOP (R151) and STATUS (R153).
-/

namespace Sys2Proof.Machine

/-! ### The data of STATUS -/

/-- A flag at the place of weight `n` counts `n` where it is set. -/
theorem mul_toNat_eq_ite (n : Nat) (b : Bool) : n * b.toNat = if b then n else 0 := by
  cases b
  · exact Nat.mul_zero n
  · exact Nat.mul_one n

/-- The live count that STATUS and STATE records give is 0 outside JOINING and MEMBER (Table 9-4). -/
theorem State.reportedLive_eq_ite (s : State) :
    s.reportedLive =
      if s.member.station = .joining ∨ s.member.station = .member then s.liveCount else 0 := by
  unfold State.reportedLive State.onLine
  cases s.member.station <;> rfl

/-- STATUS byte 1: QUORATE, SAG, OVERFLOW and SETUP VALID at bits 0 to 3 (Table 10-10). -/
theorem State.statusFlags_eq_sum_ite (s : State) :
    s.quorate.toNat + 2 * s.sag.condition.toNat + 4 * s.notes.overflow.toNat + 8 * s.setupValid.toNat =
      (if s.quorate then 1 else 0) + (if s.sag.condition then 2 else 0)
        + (if s.notes.overflow then 4 else 0) + (if s.setup.isSome then 8 else 0) := by
  simp only [← mul_toNat_eq_ite, Nat.one_mul, State.setupValid]

/-! ### The commands -/

/-- Settles O8: NOP is the row of code 00h without field bytes, and all it runs is its response (R151). -/
theorem nopAnswersOkAndChangesNothing : Obligations.NopAnswersOkAndChangesNothing := by
  intro f s ready fits
  exact congrArg Host.Outcome.next
    (State.command_of_fits (row := (.nop f, 0x00, 0)) (State.respond 0x00 .ok []) ready
      (by simp [hostCommands]) fits)

/-- Settles O16: STATUS is the row of code 08h without field bytes. Of its data the flags stand by
`statusFlags_eq_sum_ite` and the live count by `reportedLive_eq_ite`; the other bytes and the two clearings are
those of `statusCommand` itself (R153). -/
theorem statusReportsThenClears : Obligations.StatusReportsThenClears := by
  intro f s ready fits
  have run : exec (.status f) s = .next s.statusCommand :=
    congrArg Host.Outcome.next
      (State.command_of_fits (row := (.status f, 0x08, 0)) State.statusCommand ready (by simp [hostCommands]) fits)
  rw [run, ← s.statusFlags_eq_sum_ite, ← s.reportedLive_eq_ite]
  rfl

end Sys2Proof.Machine
end

section
/-!
PROOF. What a step can do, said once. Every command but a reset and SETUP takes the station through a run of changes,
each one rule's doing and each keeping the laws of a safe state by itself; `step_keeps` makes of that one induction
for all the laws.
-/

namespace Sys2Proof.Machine

/-! ### The changes of station state, less their STATE record -/

/-- Entry to LAPSED less its record (R68). -/
def State.lapsed (c : Cause) (s : State) : State :=
  let s := s.dropOut.withLine s.line.aborted
  let s := s.withTimer s.timer.foundingStopped
  s.withMember { s.member with station := .lapsed, lapseWait := 0, exitCause := c }

theorem State.enterLapsed_eq (c : Cause) (s : State) : s.enterLapsed c = (s.lapsed c).noteState c := rfl

/-- Entry to FAULTED less its record (R72). -/
def State.faulted (c : Cause) (s : State) : State :=
  let s := s.dropOut.withLine LineController.cleared
  let s := s.withTimer { CycleTimer.cleared with cycle := s.timer.cycle }
  s.withMember { s.member with station := .faulted, exitCause := c }

theorem State.enterFaulted_eq (c : Cause) (s : State) : s.enterFaulted c = (s.faulted c).noteState c := rfl

/-- Entry to OFFLINE from LEAVING less its record (R74). -/
def State.left (s : State) : State :=
  let s := (s.withMap SlotMap.cleared).withPeers PeerTable.cleared
  let s := (s.withOutbox Outbox.empty).withLine LineController.cleared
  let s := s.withTimer CycleTimer.cleared
  let s := s.withSag { s.sag with derateRemaining := 0, windowOpen := false }
  s.withMember { s.member with station := .offline }

theorem State.endLeaving_eq (s : State) : s.endLeaving = s.left.noteState .hostLeave := rfl

/-- Entry to JOINING less its PRESENCE and its record (R63, R69). -/
def State.joining (s : State) : State :=
  let s := s.withMember { s.member with station := .joining, joiningCount := 0, ownPresence := false }
  (s.withTimer { s.timer with founding := 0 }).withLine LineController.cleared

theorem State.enterJoining_eq (s : State) : s.enterJoining = s.joining.queuePresence.noteState .none := rfl

/-- Entry to LEAVING less its records (R73). -/
def State.leaving (s : State) : State :=
  let s := s.withMember { s.member with station := .leaving, exitCause := .hostLeave }
  let s := ((s.withMap (s.map.removeLiveOf s.id)).withHoldings []).outputOff
  let s := (s.withOutbox s.outbox.flush).queueLeave
  let s := (s.withPlanner ClaimPlanner.cleared).withTimer s.timer.foundingStopped
  s.withDemands []

theorem State.beginLeaving_eq (s : State) :
    s.beginLeaving = (s.leaving.noteDone .left s.demands).noteState .hostLeave := rfl

/-- Entry to MEMBER, with the Cycle Timer that it leaves, less its MARK and its record (R34, R65). -/
def State.asMember (tm : CycleTimer) (s : State) : State :=
  (s.withMember { s.member with station := .member, standing := 0 }).withTimer tm

/-- Quorum loss less its records (R77). -/
def State.quorumDropped (s : State) : State :=
  let slots := slotSetOf (s.holdings.map Holding.slot)
  let s := ((s.withMap (s.map.removeLiveOf s.id)).withHoldings []).queueRelease slots
  s.outputOff.withdrawClaim

/-- The live count handed on from `before`, less the records of a quorum loss (R56). -/
def State.settled (before : Nat) (s : State) : State :=
  if s.member.station = .member ∧ s.cfg.quorum ≤ before ∧ s.liveCount < s.cfg.quorum then
    s.quorumDropped
  else s

/-! ### One change -/

/-- One change of a station by one rule, in an event that applies the MARK `mark` or none: where the rule's condition
is one that a law leans on, it stands with the change. -/
inductive Change (mark : Option MarkFields) (s : State) : State → Prop
  /-- the Host Port -/
  | port (x : HostPort) : Change mark s (s.withPort x)
  /-- the Snapshot Buffer -/
  | snap (x : SnapshotBuffer) : Change mark s (s.withSnap x)
  /-- the Notification Queue, never past its capacity (R154) -/
  | notes (q : NotificationQueue)
      (cap : s.notes.records.length ≤ Config.noteCapacity → q.records.length ≤ Config.noteCapacity) :
      Change mark s (s.withNotes q)
  /-- the counts and flags of the Membership Controller: a MEMBER's standing stays, is cleared, or stays short of its
  limit (R66) -/
  | counts (x : Membership) (station : x.station = s.member.station)
      (standing : s.member.station = .member →
        x.standing = s.member.standing ∨ x.standing = 0 ∨ x.standing + 1 < s.cfg.expiry) :
      Change mark s (s.withMember x)
  /-- the Sag Monitor: derate remaining stays, or takes D or the MARK's field (R109, R112) -/
  | sag (x : SagMonitor)
      (derate : x.derateRemaining = s.sag.derateRemaining ∨ x.derateRemaining = s.cfg.derateHold ∨
        mark.map MarkFields.derate = some x.derateRemaining) :
      Change mark s (s.withSag x)
  /-- the planner's hold and announced priority -/
  | planner (x : ClaimPlanner) (outstanding : x.claimOutstanding = s.planner.claimOutstanding)
      (picks : x.pickOrder = s.planner.pickOrder) : Change mark s (s.withPlanner x)
  /-- a waiting CLAIM withdrawn (R146) -/
  | withdrawClaim : Change mark s s.withdrawClaim
  /-- the waiting notices but the CLAIM, with no empty set and no CONTEST against this station (R145) -/
  | waiting (o : Outbox) (rest : s.drives = true ∨ (s.outbox = .empty → o = .empty))
      (claim : o.claim = s.outbox.claim) (inFlight : o.inFlight = s.outbox.inFlight)
      (contest : s.outbox.contest.all (fun c => c.1 != s.id && c.2 != 0) = true →
        o.contest.all (fun c => c.1 != s.id && c.2 != 0) = true)
      (release : s.outbox.release.all (fun x => x != 0) = true → o.release.all (fun x => x != 0) = true) :
      Change mark s (s.withOutbox o)
  /-- the flight of a notice ends (R136) -/
  | flightEnds : Change mark s (s.withOutbox { s.outbox with inFlight := none })
  /-- the flight of a CLAIM ends, and its claim with it (R98, R138) -/
  | claimEnds (c : ClaimFields) (flies : s.outbox.inFlight = some (.claim c)) :
      Change mark s (s.withOutbox { s.outbox with inFlight := none }).endClaim
  /-- a waiting notice is taken into flight (R144) -/
  | flies (n : Notice) (o : Outbox) (drives : s.drives = true) (next : s.nextNotice = some (n, o)) :
      Change mark s (s.withOutbox { o with inFlight := some n })
  /-- a CLAIM is planned (R94) -/
  | plans (picks : List SlotIndex) (quorate : s.quorate = true) (idle : s.planner.claimOutstanding = false)
      (some_pick : picks ≠ []) :
      Change mark s ((s.withOutbox { s.outbox with claim := some (slotSetOf picks) }).withPlanner
        { s.planner with claimOutstanding := true, pickOrder := picks })
  /-- the Line Controller: a station that does not drive begins nothing (R142) -/
  | line (l : LineController) (tx : l.tx = .silent ∨ s.line.tx ≠ .silent ∨ s.drives = true)
      (ranges : s.LineRanges → (s.withLine l).LineRanges)
      (closing : l.closing = true → s.line.closing = true) : Change mark s (s.withLine l)
  /-- time passes (R22) -/
  | pass (n : Nat) : Change mark s (s.pass n)
  /-- the planning point is taken (R24) -/
  | planned : Change mark s (s.withTimer { s.timer with planningDue := false })
  /-- the next slot begins (R23) -/
  | slotBegins (j k : SlotIndex) (e : Nat) (phase : s.timer.phase = .inSlot j e) (next : nextSlot j = some k) :
      Change mark s (s.nextSlotBegins k)
  /-- the gap begins (R25) -/
  | gapBegins (j : SlotIndex) (e : Nat) (phase : s.timer.phase = .inSlot j e) :
      Change mark s (s.withTimer
        { s.timer with phase := .inGap 0 (s.timer.cycle + 1), planningDue := false }).outputOff
  /-- slot 0 begins at a mark (R30) -/
  | aligns (c : CycleNumber) (listens : s.listens = true) :
      Change mark s ((s.withTimer ⟨.inSlot 0 0, c,
        if s.member.station = .joining then 0 else s.timer.founding, false⟩).withOutput
          (if s.member.station = .member then ⟨.lead, false⟩ else ⟨.idle, false⟩))
  /-- the ON point (R121) -/
  | onPoint (k : SlotIndex) (e : Nat) (phase : s.timer.phase = .inSlot k e) (lead : s.output.phase = .lead) :
      Change mark s (s.decideOn k)
  /-- the tail point (R122) -/
  | tailPoint (k : SlotIndex) (e : Nat) (phase : s.timer.phase = .inSlot k e) (on : s.output.phase = .on) :
      Change mark s (s.decideTail k)
  /-- the Demand Queue behind a head that keeps its want -/
  | demands (ds : List Demand) (want : (s.withDemands ds).headWant = s.headWant)
      (law : s.DemandLaw → (s.withDemands ds).DemandLaw) (served : s.ServedLaw → (s.withDemands ds).ServedLaw) :
      Change mark s (s.withDemands ds)
  /-- a new head (R86) -/
  | headChanges (ds : List Demand) (law : s.DemandLaw → (s.withDemands ds).DemandLaw) :
      Change mark s (s.withDemands ds).headChange
  /-- a MEMBER releases holdings (R98) -/
  | releases (p : SlotIndex → Bool) (member : s.member.station = .member) : Change mark s (s.releaseHoldings p)
  /-- PENDING holdings are promoted (R90) -/
  | promotes (member : s.member.station = .member) :
      Change mark s (s.withHoldings (s.holdings.map Holding.promote))
  /-- a CONTEST against another station (R11) -/
  | contestOther (p : StationId) (x : SlotSet) (other : p ≠ s.id) (on : s.onLine = true) :
      Change mark s (s.withMap (s.map.contest p x))
  /-- a CONTEST against this station (R12) -/
  | contestOwn (x : SlotSet) (on : s.onLine = true) :
      Change mark s ((s.withMap (s.map.contest s.id x)).dropHoldings (slotIn x))
  /-- a RELEASE of another station (R9) -/
  | releaseOther (p : StationId) (x : SlotSet) (other : p ≠ s.id) (on : s.onLine = true) :
      Change mark s (s.withMap (s.map.release p x))
  /-- the own RELEASE (R10) -/
  | releaseOwn (x : SlotSet) (on : s.onLine = true) :
      Change mark s ((s.withMap (s.map.release s.id x)).dropHoldings (slotIn x))
  /-- a CLAIM of another station at a MEMBER (R7) -/
  | claimOther (p : StationId) (u : Nat) (x : SlotSet) (other : p ≠ s.id) (member : s.member.station = .member) :
      Change mark s (s.withMap (s.map.admission s.beff p u x))
  /-- a grant given back while not quorate (R100) -/
  | grantBack (u : Nat) (x : SlotSet) (member : s.member.station = .member) :
      Change mark s (s.withMap ((s.map.admission s.beff s.id u x).release s.id
        (slotSetOf (s.map.granted s.beff s.id u x))))
  /-- a grant under yield hold (R100) -/
  | grantReleasing (u : Nat) (x : SlotSet) (member : s.member.station = .member) :
      Change mark s ((s.withMap (s.map.admission s.beff s.id u x)).addHoldings .releasing
        (s.map.granted s.beff s.id u x))
  /-- a grant taken (R100) -/
  | grantTaken (u : Nat) (x : SlotSet) (quorate : s.quorate = true) :
      Change mark s (((s.withMap (s.map.admission s.beff s.id u x)).addHoldings .pending
        (s.map.granted s.beff s.id u x)).releaseSurplus s.headWant)
  /-- a peer's announced priority (R49) -/
  | peerPriority (p : StationId) (q : Priority) (on : s.onLine = true) :
      Change mark s (s.withPeers (s.peers.set p { s.peers.get p with priority := q }))
  /-- a LIVE peer expires (R51) -/
  | peerExpires (p : StationId) (other : p ≠ s.id) (on : s.onLine = true) :
      Change mark s (((s.withPeers (s.peers.set p { s.peers.get p with live := false, silence := 0 })).withMap
        (s.map.orphan p s.timer.cycle s.cfg.expiry)).settled s.liveCount)
  /-- an ABSENT peer's records become orphans (R50) -/
  | peerOrphaned (p : StationId) (other : p ≠ s.id) (absent : (s.peers.get p).live = false)
      (on : s.onLine = true) :
      Change mark s ((s.withPeers (s.peers.set p { s.peers.get p with silence := 0 })).withMap
        (s.map.orphan p s.timer.cycle s.cfg.expiry))
  /-- a LEAVE of another station (R14, R53) -/
  | peerLeaves (p : StationId) (other : p ≠ s.id) (on : s.onLine = true) :
      Change mark s (((s.withMap (s.map.removeStation p)).withPeers
        (s.peers.set p (s.peers.get p).left)).settled s.liveCount)
  /-- a PRESENCE of another station (R44 to R48) -/
  | peerPresents (p : StationId) (f : PresenceFields) (other : p ≠ s.id) (on : s.onLine = true) :
      Change mark s (((s.withMap (s.map.reconcile s.cfg.budget p f.units (!(s.peers.get p).live)
        f.holdings)).withPeers (s.peers.set p ⟨true, f.role, f.units, f.priority, 0⟩)).settled s.liveCount)
  /-- the orphan countdown (R16) -/
  | countdown (c : CycleNumber) (on : s.onLine = true) : Change mark s (s.withMap (s.map.countdown c))
  /-- a spent orphan goes (R16) -/
  | orphanSpent (k : SlotIndex) (p : StationId) (on : s.onLine = true) :
      Change mark s (s.withMap (s.map.set k ((s.map.get k).filter fun r => !(r.station == p && r.ranOut))))
  /-- RESTART (R75) -/
  | restarts (c : Cause) : Change mark s (s.cleared s.setup c)
  /-- entry to JOINING (R63, R69) -/
  | joins (ready : s.member.station = .offline ∧ s.setup.isSome = true ∨ s.member.station = .lapsed) :
      Change mark s s.joining
  /-- entry to MEMBER (R34, R65) -/
  | becomesMember (tm : CycleTimer) (joining : s.member.station = .joining) (founding : tm.founding = 0)
      (phase : tm.phase = s.timer.phase ∨ ∃ a, tm.phase = .inGap 0 a) : Change mark s (s.asMember tm)
  /-- entry to LEAVING (R73) -/
  | leaves (on : s.onLine = true) : Change mark s s.leaving
  /-- entry to OFFLINE from LEAVING (R74) -/
  | goesOffline (leaving : s.member.station = .leaving) : Change mark s s.left
  /-- entry to LAPSED (R68) -/
  | lapses (c : Cause) (member : s.member.station = .member) : Change mark s (s.lapsed c)
  /-- entry to FAULTED (R72) -/
  | faults (c : Cause) (on : s.onLine = true) : Change mark s (s.faulted c)

/-- The transmitter stays as it is. -/
theorem LineController.tx_stays {l m : LineController} {drives : Bool} (h : l.tx = m.tx) :
    l.tx = .silent ∨ m.tx ≠ .silent ∨ drives = true := by
  by_cases hm : m.tx = .silent
  · exact .inl (h.trans hm)
  · exact .inr (.inl hm)

/-- A run of changes in one event. -/
abbrev Changes (mark : Option MarkFields) : State → State → Prop := Relation.ReflTransGen (Change mark)

theorem Change.run {mark : Option MarkFields} {s t : State} (h : Change mark s t) : Changes mark s t :=
  Relation.ReflTransGen.single h

theorem Changes.line {mark : Option MarkFields} {s : State} {l : LineController}
    (tx : l.tx = .silent ∨ s.line.tx ≠ .silent ∨ s.drives = true)
    (ranges : s.LineRanges → (s.withLine l).LineRanges)
    (closing : l.closing = true → s.line.closing = true) : Changes mark s (s.withLine l) :=
  (Change.line l tx ranges closing).run

theorem Changes.step {mark : Option MarkFields} {s t u : State} (h : Changes mark s t) (h' : Change mark t u) :
    Changes mark s u :=
  Relation.ReflTransGen.tail h h'

end Sys2Proof.Machine
end

section
/-!
PROOF. Every command is a run of changes: one lemma for each operation that the commands share, and one for each
family of commands.
-/

namespace Sys2Proof.Machine

variable {mark : Option MarkFields} {s t : State}

/-! ### Records, demands and the Outbox -/

theorem State.note_changes (b : NoteBody) (s : State) : Changes mark s (s.note b) := by
  obtain ⟨q, hq, cap, -⟩ := s.note_spec b
  exact hq ▸ (Change.notes q cap).run

theorem State.noteState_changes (c : Cause) (s : State) : Changes mark s (s.noteState c) := s.note_changes _

theorem State.noteDone_changes (code : DoneCode) (ds : List Demand) (s : State) :
    Changes mark s (s.noteDone code ds) := by
  obtain ⟨q, hq, cap⟩ := s.noteDone_spec code ds
  exact hq ▸ (Change.notes q cap).run

theorem headWant_clearServed (ds : List Demand) (s : State) :
    (s.withDemands (clearServed ds)).headWant = (s.withDemands ds).headWant := by
  cases ds <;> rfl

theorem head_clearServed {ds : List Demand} {d : Demand} (h : (clearServed ds).head? = some d) :
    d.served = false := by
  cases ds with
  | nil => simp [clearServed] at h
  | cons e es =>
    simp only [clearServed, List.head?_cons, Option.some.injEq] at h
    exact h ▸ rfl

theorem mem_clearServed_valid {ds : List Demand} (h : ∀ d ∈ ds, d.valid = true) :
    ∀ d ∈ clearServed ds, d.valid = true := by
  cases ds with
  | nil => simp [clearServed]
  | cons e es =>
    simp only [clearServed, List.forall_mem_cons] at h ⊢
    exact h

theorem State.DemandLaw.clearServed (h : s.DemandLaw) : (s.withDemands (clearServed s.demands)).DemandLaw := by
  obtain ⟨len, tags, valid⟩ := h
  refine ⟨?_, ?_, mem_clearServed_valid valid⟩
  · simpa using len
  · simpa [clearServed_map Demand.tag (fun _ _ => rfl)] using tags

theorem State.clearServed_changes (s : State) : Changes mark s (s.withDemands (clearServed s.demands)) :=
  (Change.demands _ (headWant_clearServed _ s) (fun h => h.clearServed) fun _ _ _ h => head_clearServed h).run

theorem State.short_changes (c : ShortCause) (s : State) : Changes mark s (s.short c) := by
  obtain ⟨q, hq, cap⟩ := s.short_spec c
  exact hq ▸ (Change.notes q cap).run.trans (s.withNotes q).clearServed_changes

theorem State.shortIfBelow_changes (c : ShortCause) (s : State) : Changes mark s (s.shortIfBelow c) := by
  unfold State.shortIfBelow
  split
  · exact .refl
  · split
    · exact s.short_changes c
    · exact .refl

/-- A union names a slot where its second set names one. -/
theorem slotSet_or_ne_zero {x : SlotSet} (y : SlotSet) (hx : x ≠ 0) : y ||| x ≠ 0 := by
  intro h
  refine hx ((slotSet_eq_zero_iff x).2 fun k => ?_)
  have hk := (slotSet_eq_zero_iff _).1 h k
  rw [slotIn_or, Bool.or_eq_false_iff] at hk
  exact hk.2

theorem Outbox.queueRelease_keeps (x : SlotSet) (o : Outbox)
    (h : o.release.all (fun x => x != 0) = true) : (o.queueRelease x).release.all (fun x => x != 0) = true := by
  by_cases hx : x = 0
  · simpa [Outbox.queueRelease, hx] using h
  · rw [(o.queueRelease_spec x).2 hx, Option.all_some, bne_iff_ne]
    exact slotSet_or_ne_zero _ hx

theorem Outbox.queueContest_keeps {t id : StationId} (x : SlotSet) (o : Outbox) (ht : t ≠ id)
    (h : o.contest.all (fun c => c.1 != id && c.2 != 0) = true) :
    (o.queueContest t x).contest.all (fun c => c.1 != id && c.2 != 0) = true := by
  unfold Outbox.queueContest
  by_cases hx : x = 0
  · simpa [hx] using h
  · rw [if_neg hx]
    split
    · simpa [ht] using hx
    · next y _ =>
      split
      · simpa [ht] using slotSet_or_ne_zero y hx
      · exact h

theorem State.queueMark_changes (c : CycleNumber) (h : s.drives = true) : Changes mark s (s.queueMark c) := by
  refine (Change.waiting _ (.inl h) ?_ ?_ ?_ ?_).run <;> simp [Outbox.queueMark_spec]

theorem State.queueSag_changes (h : s.drives = true) : Changes mark s s.queueSag :=
  (Change.waiting { s.outbox with sag := true } (.inl h) rfl rfl (fun h => h) fun h => h).run

theorem State.queuePresence_changes (h : s.drives = true) : Changes mark s s.queuePresence :=
  (Change.waiting { s.outbox with presence := true } (.inl h) rfl rfl (fun h => h) fun h => h).run

theorem State.queueRelease_changes (x : SlotSet) (h : s.drives = true) : Changes mark s (s.queueRelease x) :=
  have spec := (s.outbox.queueRelease_spec x).1
  (Change.waiting _ (.inl h) (by rw [spec]) (by rw [spec]) (by rw [spec]; exact fun h => h)
    (Outbox.queueRelease_keeps x _)).run

theorem State.queueContest_changes {p : StationId} (x : SlotSet) (hp : p ≠ s.id) (h : s.drives = true) :
    Changes mark s (s.queueContest p x) :=
  have spec := s.outbox.queueContest_spec p x
  (Change.waiting _ (.inl h) (by rw [spec]) (by rw [spec]) (Outbox.queueContest_keeps x _ hp)
    (by rw [spec]; exact fun h => h)).run

theorem State.setYieldHold_changes (s : State) : Changes mark s s.setYieldHold :=
  (Change.planner { s.planner with yieldHold := true } rfl rfl).run.step .withdrawClaim

theorem State.headChange_changes (ds : List Demand) (h : s.DemandLaw → (s.withDemands ds).DemandLaw) :
    Changes mark s (s.withDemands ds).headChange :=
  (Change.headChanges ds h).run

/-- The record of a demand's end may be queued before or after the demand has left the queue. -/
theorem State.note_withDemands (b : NoteBody) (ds : List Demand) (s : State) :
    (s.withDemands ds).note b = (s.note b).withDemands ds := by
  rw [State.note_after, State.note_after]
  rfl

theorem State.DemandLaw.tail {d : Demand} {ds : List Demand} (h : s.DemandLaw) (hd : s.demands = d :: ds) :
    (s.withDemands ds).DemandLaw := by
  obtain ⟨len, tags, valid⟩ := h
  rw [hd] at len tags valid
  exact ⟨Nat.le_of_succ_le len, (List.nodup_cons.1 tags).2, fun e he => valid e (List.mem_cons_of_mem d he)⟩

theorem State.completeDemand_changes (s : State) : Changes mark s s.completeDemand := by
  unfold State.completeDemand
  split
  · exact .refl
  · next d ds hd =>
    split
    · rw [State.note_withDemands]
      refine (s.note_changes _).trans (State.headChange_changes ds fun h => ?_)
      exact h.tail (by simpa using hd)
    · exact .refl

/-- A head that changes its remaining or its served flag alone. -/
theorem State.DemandLaw.head {d e : Demand} {ds : List Demand} (h : s.DemandLaw) (hd : s.demands = d :: ds)
    (tag : e.tag = d.tag) (valid : e.valid = d.valid) : (s.withDemands (e :: ds)).DemandLaw := by
  obtain ⟨len, tags, fair⟩ := h
  rw [hd] at len tags fair
  refine ⟨len, by simpa [tag] using tags, ?_⟩
  simp only [State.demands_withDemands, List.forall_mem_cons] at fair ⊢
  exact ⟨valid ▸ fair.1, fair.2⟩

theorem State.head_changes {d e : Demand} {ds : List Demand} (hd : s.demands = d :: ds) (tag : e.tag = d.tag)
    (want : e.want = d.want) (valid : e.valid = d.valid)
    (served : s.member.station ≠ .member → e.served = d.served) :
    Changes mark s (s.withDemands (e :: ds)) := by
  refine (Change.demands _ ?_ (fun h => h.head hd tag valid) fun h hm d' hd' => ?_).run
  · simp [State.headWant, hd, want]
  · cases hd'
    exact (served hm).trans (h hm d (by simp [hd]))

theorem State.cycleEnd_changes (s : State) : Changes mark s s.cycleEnd := by
  unfold State.cycleEnd
  split
  · exact .refl
  · next d ds hd =>
    split
    · exact (State.head_changes (e := { d with remaining := d.remaining - 1 }) hd rfl rfl rfl fun _ => rfl).trans
        (State.completeDemand_changes _)
    · exact .refl

/-! ### Quorum and peers -/

theorem State.quorumLoss_changes (s : State) : Changes mark s.quorumDropped s.quorumLoss := by
  have : s.quorumLoss = (if s.holdings.length = 0 then s.quorumDropped
      else s.quorumDropped.note (.yielded s.holdings.length .quorum)).short .quorum := rfl
  rw [this]
  split
  · exact State.short_changes _ _
  · exact (State.note_changes _ _).trans (State.short_changes _ _)

theorem State.afterLive_changes (n : Nat) (s : State) : Changes mark (s.settled n) (s.afterLive n) := by
  unfold State.settled State.afterLive
  split
  · exact s.quorumLoss_changes
  · exact .refl

theorem State.expirePeer_changes (p : StationId) (s : State) : Changes mark s (s.expirePeer p) := by
  rcases s.expirePeer_cases p with h | ⟨on, other, -, -, h⟩
  · rw [h]
  · rw [h]
    exact (Change.peerExpires p other on).run.trans (State.afterLive_changes _ _)

theorem State.orphanAbsent_changes (p : StationId) (s : State) : Changes mark s (s.orphanAbsent p) := by
  rcases s.orphanAbsent_cases p with h | ⟨on, other, absent, -, h⟩
  · rw [h]
  · rw [h]
    exact (Change.peerOrphaned p other absent on).run

/-! ### Changes of station state -/

theorem State.onLine_iff (s : State) :
    s.onLine = true ↔ s.member.station = .joining ∨ s.member.station = .member := by
  unfold State.onLine
  cases s.member.station <;> simp

theorem State.drives_iff (s : State) :
    s.drives = true ↔ s.member.station = .joining ∨ s.member.station = .member ∨ s.member.station = .leaving := by
  unfold State.drives
  cases s.member.station <;> simp

theorem State.drives_of_onLine (h : s.onLine = true) : s.drives = true := by
  rw [State.onLine_iff] at h
  rw [State.drives_iff]
  tauto

theorem State.onLine_of_member (h : s.member.station = .member) : s.onLine = true :=
  s.onLine_iff.2 (.inr h)

theorem State.onLine_of_joining (h : s.member.station = .joining) : s.onLine = true :=
  s.onLine_iff.2 (.inl h)

theorem State.drives_of_member (h : s.member.station = .member) : s.drives = true :=
  State.drives_of_onLine (State.onLine_of_member h)

theorem State.member_of_quorate (h : s.quorate = true) : s.member.station = .member := by
  simp only [State.quorate, Bool.and_eq_true, beq_iff_eq] at h
  exact h.1

theorem State.enterLapsed_changes (c : Cause) (h : s.member.station = .member) :
    Changes mark s (s.enterLapsed c) :=
  (Change.lapses c h).run.trans (State.noteState_changes c _)

theorem State.enterFaulted_changes (c : Cause) (h : s.onLine = true) : Changes mark s (s.enterFaulted c) :=
  (Change.faults c h).run.trans (State.noteState_changes c _)

theorem State.endLeaving_changes (h : s.member.station = .leaving) : Changes mark s s.endLeaving :=
  (Change.goesOffline h).run.trans (State.noteState_changes _ _)

theorem State.enterJoining_changes
    (h : s.member.station = .offline ∧ s.setup.isSome = true ∨ s.member.station = .lapsed) :
    Changes mark s s.enterJoining :=
  ((Change.joins h).run.trans (State.queuePresence_changes rfl)).trans (State.noteState_changes _ _)

theorem State.beginLeaving_changes (h : s.onLine = true) : Changes mark s s.beginLeaving :=
  ((Change.leaves h).run.trans (State.noteDone_changes _ _ _)).trans (State.noteState_changes _ _)

theorem State.becomeMember_changes (h : s.member.station = .joining) : Changes mark s s.becomeMember := by
  unfold State.becomeMember
  dsimp only
  split
  · next e a hp =>
    exact ((Change.becomesMember { s.timer with phase := .inGap 0 a, founding := 0 } h rfl
      (.inr ⟨a, rfl⟩)).run.trans (State.queueMark_changes a rfl)).trans (State.noteState_changes _ _)
  · exact (Change.becomesMember s.timer.foundingStopped h rfl (.inl rfl)).run.trans
      (State.noteState_changes _ _)

theorem State.joinIfDone_changes (s : State) : Changes mark s s.joinIfDone := by
  unfold State.joinIfDone State.joiningDone
  split
  · next h =>
    simp only [Bool.and_eq_true, beq_iff_eq] at h
    exact State.becomeMember_changes h.1.1
  · exact .refl

theorem State.found_changes (h : s.member.station = .joining) : Changes mark s s.found :=
  (((Change.becomesMember ⟨.inGap 0 0, 0, 0, false⟩ h rfl (.inr ⟨0, rfl⟩)).run.trans
    (State.queueMark_changes 0 rfl)).trans (State.queuePresence_changes rfl)).trans
      (State.noteState_changes _ _)

theorem State.lapseIfDue_changes (x : Membership) (hx : x.station = s.member.station) :
    Changes mark s (s.withMember x).lapseIfDue := by
  by_cases hm : s.member.station = .member ∧ s.cfg.expiry ≤ x.standing + 1
  · have lapse : (s.withMember x).lapseIfDue = (s.withMember x).enterLapsed .lapsedSend :=
      if_pos ⟨hx.trans hm.1, hm.2⟩
    rw [lapse]
    have late : Changes mark s (((s.lapsed .lapsedSend).withMember
        { x with station := .lapsed, lapseWait := 0, exitCause := .lapsedSend })) :=
      (Change.lapses .lapsedSend hm.1).run.step (Change.counts _ rfl fun h => by cases h)
    exact late.trans (State.noteState_changes _ _)
  · have stay : (s.withMember x).lapseIfDue = s.withMember x :=
      if_neg fun h => hm ⟨hx ▸ h.1, h.2⟩
    rw [stay]
    refine (Change.counts x hx fun h => .inr (.inr ?_)).run
    by_contra hge
    exact hm ⟨h, not_lt.1 hge⟩

/-! ### The frame that a notice ends -/

theorem State.frameEnded_changes (s : State) : Changes mark s (s.withLine s.line.frameEnded) := by
  refine (Change.line _ (.inl rfl) (fun h => ?_) fun h => by cases h).run
  obtain ⟨-, ha, hc, -⟩ := h
  exact ⟨Nat.zero_le _, ha, hc, Nat.zero_le _⟩

theorem State.afterHeard_changes (s : State) : Changes mark s s.afterHeard := s.frameEnded_changes

/-- The counts of a notice that is no longer in flight. -/
theorem State.countsEnd_changes (s : State) :
    Changes mark s (s.withLine { s.line with attempts := 0, clashes := 0 }) := by
  refine (Change.line { s.line with attempts := 0, clashes := 0 } (LineController.tx_stays rfl) (fun h => ?_) fun h => h).run
  obtain ⟨hi, -, -, hf⟩ := h
  exact ⟨hi, Nat.zero_le _, Nat.zero_le _, hf⟩

theorem State.endFlight_changes (s : State) : Changes mark s s.endFlight :=
  (Change.flightEnds).run.trans (State.countsEnd_changes _)

theorem State.endFlight_endClaim_changes {c : ClaimFields} (h : s.outbox.inFlight = some (.claim c)) :
    Changes mark s s.endFlight.endClaim :=
  (Change.claimEnds c h).run.trans (State.countsEnd_changes _)

theorem State.afterSent_changes (s : State) : Changes mark s s.afterSent :=
  s.frameEnded_changes.trans (State.endFlight_changes _)

theorem State.afterSent_endClaim_changes {c : ClaimFields} (h : s.outbox.inFlight = some (.claim c)) :
    Changes mark s s.afterSent.endClaim :=
  s.frameEnded_changes.trans (State.endFlight_endClaim_changes (s := s.withLine s.line.frameEnded) h)

/-- A notice that completes is a run of changes where its meaning is one, for a notice of another station and for the
own one after its flight (R136, R141). -/
theorem State.complete_changes {p : StationId} {n : Notice} {own other : State → State}
    (ho : p = s.id → s.outbox.inFlight = some n → Changes mark s (own s.afterSent))
    (hr : p ≠ s.id ∨ s.onLine = false → Changes mark s.afterHeard (other s.afterHeard)) :
    Changes mark s (s.unlessHeld (State.complete p n own other)) := by
  unfold State.unlessHeld
  split
  · exact .refl
  unfold State.complete
  rcases s.landing_cases p n with h | ⟨-, hp, -, hf, h⟩ | ⟨-, -, on, -, -, h⟩ | ⟨-, hp, -, -, h⟩
  · rw [h]
  · rw [h]
    exact ho hp hf
  · rw [h]
    exact s.afterHeard_changes.trans (State.enterFaulted_changes _ on)
  · rw [h]
    exact s.afterHeard_changes.trans (hr hp)

end Sys2Proof.Machine
end

section
/-!
PROOF. The commands as runs of changes, and the one induction over a step that every law of a safe state goes by.
-/

namespace Sys2Proof.Machine

variable {mark : Option MarkFields} {s t : State}

/-- What happens under a condition alone. -/
theorem Changes.ite {c : Prop} [Decidable c] (h : c → Changes mark s t) :
    Changes mark s (if c then t else s) := by
  split
  · exact h ‹c›
  · exact .refl

/-! ### Host commands -/

theorem State.respond_changes (code : Byte) (st : Status) (data : List Byte) (s : State) :
    Changes mark s (s.respond code st data) :=
  (Change.port _).run

theorem State.unlessHeld_changes {f : State → State} (h : Changes mark s (f s)) :
    Changes mark s (s.unlessHeld f) := by
  unfold State.unlessHeld
  split
  · exact .refl
  · exact h

theorem State.transaction_changes (row : Instr) (f : HostFrame) {judged : State → State}
    (h : Changes mark s (judged s)) : Changes mark s (s.transaction row f judged) := by
  rcases s.transaction_cases row f judged with ⟨-, -, e⟩ | ⟨-, -, -, e⟩ | e <;> rw [e]
  · exact (Change.port _).run
  · exact h

theorem State.command_changes (row : Instr) (code : Byte) (fields : Nat) (f : HostFrame) {run : State → State}
    (h : Changes mark s (run s)) : Changes mark s (s.command row code fields f run) := by
  refine State.transaction_changes row f ?_
  split
  · exact State.respond_changes _ _ _ _
  · exact h

theorem State.enterCommand_changes (s : State) : Changes mark s s.enterCommand := by
  unfold State.enterCommand
  split
  · next off =>
    split
    · next valid => exact (State.enterJoining_changes (.inl ⟨off, valid⟩)).trans (State.respond_changes _ _ _ _)
    · exact State.respond_changes _ _ _ _
  · exact State.respond_changes _ _ _ _

theorem State.leaveCommand_changes (s : State) : Changes mark s s.leaveCommand := by
  unfold State.leaveCommand
  split
  · next on => exact (State.beginLeaving_changes on).trans (State.respond_changes _ _ _ _)
  · exact State.respond_changes _ _ _ _

theorem State.restart_changes (s : State) : Changes mark s s.restart :=
  (Change.restarts .hostRestart).run.trans (State.noteState_changes _ _)

theorem demandFrom_valid {f : HostFrame} {d : Demand} (h : demandFrom f = some d) : d.valid = true := by
  unfold demandFrom at h
  grind

theorem State.DemandLaw.singleton {d : Demand} (h : d.valid = true) : (s.withDemands [d]).DemandLaw :=
  ⟨by simp [Config.demandCapacity], by simp, by simpa using h⟩

theorem State.DemandLaw.append {d : Demand} (h : s.DemandLaw) (room : s.demands.length < Config.demandCapacity)
    (new : ∀ e ∈ s.demands, e.tag ≠ d.tag) (valid : d.valid = true) :
    (s.withDemands (s.demands ++ [d])).DemandLaw := by
  obtain ⟨-, tags, fair⟩ := h
  refine ⟨by simpa using room, ?_, ?_⟩
  · rw [State.demands_withDemands, List.map_append, List.nodup_append]
    exact ⟨tags, List.nodup_singleton _, by simpa using new⟩
  · simp only [State.demands_withDemands, List.forall_mem_append, List.forall_mem_singleton]
    exact ⟨fair, valid⟩

theorem State.appendDemand_changes {d : Demand} (room : s.demands.length < Config.demandCapacity)
    (new : ∀ e ∈ s.demands, e.tag ≠ d.tag) (valid : d.valid = true) : Changes mark s (s.appendDemand d) := by
  unfold State.appendDemand
  have law (h : s.DemandLaw) := h.append room new valid
  dsimp only
  split
  · exact (Change.headChanges _ law).run
  · next hne =>
    cases hd : s.demands with
    | nil => simp [hd] at hne
    | cons e es =>
      refine hd ▸ (Change.demands _ ?_ law fun h hm d' hd' => ?_).run
      · simp [State.headWant, hd]
      · simp only [State.demands_withDemands, hd, List.cons_append, List.head?_cons, Option.some.injEq] at hd'
        exact h hm d' (by simp [hd, hd'])

theorem State.appendCommand_changes (f : HostFrame) (s : State) : Changes mark s (s.appendCommand f) := by
  unfold State.appendCommand
  split
  · exact State.respond_changes _ _ _ _
  split
  · exact State.respond_changes _ _ _ _
  next d hd =>
  split
  · exact State.respond_changes _ _ _ _
  next new =>
  split
  · exact State.respond_changes _ _ _ _
  next room =>
  refine (State.appendDemand_changes (not_le.1 room) ?_ (demandFrom_valid hd)).trans
    (State.respond_changes _ _ _ _)
  simpa using new

theorem State.replaceCommand_changes (f : HostFrame) (s : State) : Changes mark s (s.replaceCommand f) := by
  unfold State.replaceCommand
  split
  · exact State.respond_changes _ _ _ _
  split
  · exact State.respond_changes _ _ _ _
  next d hd =>
  exact ((State.noteDone_changes _ _ _).step
    (.headChanges [d] fun _ => State.DemandLaw.singleton (demandFrom_valid hd))).trans
      (State.respond_changes _ _ _ _)

theorem State.DemandLaw.filter (h : s.DemandLaw) (p : Demand → Bool) :
    (s.withDemands (s.demands.filter p)).DemandLaw := by
  obtain ⟨len, tags, fair⟩ := h
  exact ⟨(List.length_filter_le _ _).trans len, tags.sublist (List.filter_sublist.map _),
    fun d hd => fair d (List.mem_filter.1 hd).1⟩

theorem State.withdrawDemand_changes (d : Demand) (s : State) : Changes mark s (s.withdrawDemand d) := by
  unfold State.withdrawDemand
  dsimp only
  rw [State.note_withDemands]
  refine (s.note_changes (.done d.tag d.remaining .withdrawn)).trans ?_
  have law : (s.note (.done d.tag d.remaining .withdrawn)).DemandLaw →
      ((s.note (.done d.tag d.remaining .withdrawn)).withDemands
        (s.demands.filter fun e => !(e.tag == d.tag))).DemandLaw := by
    intro h
    have := h.filter fun e => !(e.tag == d.tag)
    simpa using this
  split
  · exact (Change.headChanges _ law).run
  · next hne =>
    have head : (s.demands.filter fun e => !(e.tag == d.tag)).head? = s.demands.head? := by
      cases hd : s.demands with
      | nil => rfl
      | cons e es =>
        have : e.tag ≠ d.tag := by simpa [hd] using hne
        simp [this]
    refine (Change.demands _ ?_ law fun h hm e he => ?_).run
    · have want (u : State) : u.headWant = (u.demands.head?.map Demand.want).getD 0 := by
        unfold State.headWant
        cases u.demands <;> rfl
      rw [want, want]
      simp [head]
    · rw [State.demands_withDemands, head] at he
      exact h hm e (by simpa using he)

theorem State.withdrawCommand_changes (f : HostFrame) (s : State) : Changes mark s (s.withdrawCommand f) := by
  unfold State.withdrawCommand
  split
  · exact State.respond_changes _ _ _ _
  · exact (State.withdrawDemand_changes _ _).trans (State.respond_changes _ _ _ _)

theorem State.statusCommand_changes (s : State) : Changes mark s s.statusCommand :=
  (((Change.notes { s.notes with overflow := false } fun h => h).run).step
    (.counts { s.member with exitCause := .none } rfl fun _ => .inl rfl)).trans (State.respond_changes _ _ _ _)

theorem State.nextNoteCommand_changes (s : State) : Changes mark s s.nextNoteCommand := by
  unfold State.nextNoteCommand
  split
  · exact State.respond_changes _ _ _ _
  · next n ns hn =>
    refine (Change.notes { s.notes with records := ns } fun h => ?_).run.trans (State.respond_changes _ _ _ _)
    exact Nat.le_of_succ_le (by simpa [hn] using h)

theorem State.snapCommand_changes (s : State) : Changes mark s s.snapCommand := by
  unfold State.snapCommand
  split
  · exact (Change.snap _).run.trans (State.respond_changes _ _ _ _)
  · exact State.respond_changes _ _ _ _

theorem State.snapReadCommand_changes (page : Nat) (s : State) : Changes mark s (s.snapReadCommand page) := by
  unfold State.snapReadCommand
  repeat' split
  all_goals exact State.respond_changes _ _ _ _

theorem State.peersReadCommand_changes (page : Nat) (s : State) : Changes mark s (s.peersReadCommand page) := by
  unfold State.peersReadCommand
  split
  all_goals exact State.respond_changes _ _ _ _

/-! ### The Sag Monitor -/

theorem State.saginMoves_changes (b : Bool) (s : State) : Changes mark s (s.saginMoves b) := by
  unfold State.saginMoves
  split
  · exact .refl
  · exact (Change.sag { s.sag with sagin := b, filter := 0 } (.inl rfl)).run

/-- A count of released entries is reported, or none (R13, R111, R114). -/
theorem State.note_unless_changes (n : Nat) (b : NoteBody) (s : State) :
    Changes mark s (if n = 0 then s else s.note b) := by
  split
  · exact .refl
  · exact s.note_changes b

theorem State.localShed_changes (s : State) : Changes mark s s.localShed := by
  unfold State.localShed
  dsimp only
  by_cases hm : s.member.station = .member
  · simp only [hm, if_true]
    exact ((((Change.releases _ hm).run.step (.planner _ (by rfl) (by rfl))).trans
      (State.setYieldHold_changes _)).trans (State.note_unless_changes _ _ _)).trans (State.short_changes _ _)
  · simp only [hm, if_false]
    exact (Change.planner _ (by rfl) (by rfl)).run.trans (State.setYieldHold_changes _)

theorem State.sagAppears_changes (s : State) : Changes mark s s.sagAppears := by
  unfold State.sagAppears
  split
  · next on =>
    split
    · exact State.queueSag_changes (State.drives_of_onLine on)
    · exact s.localShed_changes
  · exact .refl

theorem State.conditionChanges_changes (s : State) : Changes mark s s.conditionChanges :=
  Changes.ite fun _ => ((Change.pass _).run.step (.sag _ (.inl (by rfl)))).trans
    (Changes.ite fun _ => State.sagAppears_changes _)

theorem State.sagYield_changes (h : s.member.station = .member) : Changes mark s s.sagYield := by
  unfold State.sagYield
  dsimp only
  split
  · exact .refl
  · exact (((Change.releases _ h).run.trans (State.setYieldHold_changes _)).trans
      (State.note_unless_changes _ _ _)).trans (State.shortIfBelow_changes _ _)

theorem State.sagApplies_changes (s : State) : Changes mark s s.sagApplies :=
  Changes.ite fun _ => ((Change.sag _ (.inr (.inl (by rfl)))).run.trans
    (Changes.ite fun _ => State.note_changes _ _)).trans (Changes.ite State.sagYield_changes)

theorem State.endWindow_changes (s : State) : Changes mark s s.endWindow :=
  (Change.sag { s.sag with windowOpen := false } (.inl rfl)).run.trans (State.note_changes _ _)

theorem State.windowEnds_changes (s : State) : Changes mark s s.windowEnds :=
  Changes.ite fun _ => s.endWindow_changes

/-! ### The notices -/

theorem State.withdrawContest_changes (p : StationId) (x : SlotSet) (on : s.onLine = true) :
    Changes mark s (s.withOutbox (s.outbox.withdrawContest p x)) := by
  refine (Change.waiting _ (.inl (State.drives_of_onLine on)) ?_ ?_ ?_ ?_).run
  all_goals
    unfold Outbox.withdrawContest
    split
    · split <;> simp
    · simp

/-- A CONTEST against this station, the records and the entries in one change (R12, R13). -/
theorem State.contestedHere_changes (x : SlotSet) (on : s.onLine = true) :
    Changes mark s ((s.withMap (s.map.contest s.id x)).contestedHere x) := by
  unfold State.contestedHere
  dsimp only
  split
  · exact (Change.contestOwn x on).run
  · exact ((Change.contestOwn x on).run.trans (State.note_changes _ _)).trans (State.shortIfBelow_changes _ _)

theorem State.contestApplies_changes (p : StationId) (x : SlotSet) (s : State) :
    Changes mark s (s.contestApplies p x) := by
  refine Changes.ite fun on => (State.withdrawContest_changes p x on).trans ?_
  show Changes mark _ (if p = s.id then _ else _)
  by_cases hp : p = s.id
  · subst hp
    rw [if_pos (by rfl)]
    exact State.contestedHere_changes (s := s.withOutbox (s.outbox.withdrawContest s.id x)) x on
  · rw [if_neg hp]
    exact (Change.contestOther (s := s.withOutbox (s.outbox.withdrawContest p x)) p x hp on).run

theorem State.releaseApplies_changes {p : StationId} (x : SlotSet) (h : p ≠ s.id ∨ s.onLine = false) :
    Changes mark s (s.releaseApplies p x) :=
  Changes.ite fun on => (Change.releaseOther p x (h.resolve_right (by simp [on])) on).run

theorem State.ownReleaseApplies_changes (x : SlotSet) (s : State) : Changes mark s (s.ownReleaseApplies x) := by
  refine Changes.ite fun on => ?_
  rw [State.releaseApplies, if_pos on]
  exact (Change.releaseOwn x on).run

theorem State.leaveApplies_changes {p : StationId} (h : p ≠ s.id ∨ s.onLine = false) :
    Changes mark s (s.leaveApplies p) := by
  by_cases on : s.onLine = true
  · rw [State.leaveApplies_of_onLine p on]
    exact (Change.peerLeaves p (h.resolve_right (by simp [on])) on).run.trans (State.afterLive_changes _ _)
  · have : s.leaveApplies p = s := if_neg on
    rw [this]

theorem State.ownLeaveApplies_changes (s : State) : Changes mark s s.ownLeaveApplies :=
  Changes.ite State.endLeaving_changes

theorem State.presenceApplies_changes {p : StationId} (f : PresenceFields) (h : p ≠ s.id ∨ s.onLine = false) :
    Changes mark s (s.presenceApplies p f) := by
  refine Changes.ite fun on => ?_
  have hp := h.resolve_right (by simp [on])
  dsimp only
  split
  · exact ((State.queueContest_changes _ hp (State.drives_of_onLine on)).step
      (.peerPresents p f hp on)).trans (State.afterLive_changes _ _)
  · exact (Change.peerPresents p f hp on).run.trans (State.afterLive_changes _ _)

theorem State.announce_changes (q : Priority) (s : State) : Changes mark s (s.announce q) :=
  (Change.planner { s.planner with announcedPriority := q } rfl rfl).run

theorem State.ownPresenceApplies_changes (f : PresenceFields) (s : State) :
    Changes mark s (s.ownPresenceApplies f) := by
  refine (State.announce_changes f.priority s).trans (Changes.ite fun on => ?_)
  split
  · exact (Change.counts _ (by rfl) fun _ => .inr (.inl (by rfl))).run.trans
      (State.queueRelease_changes _ (State.drives_of_onLine on))
  · exact (Change.counts _ (by rfl) fun _ => .inl (by rfl)).run.trans (State.joinIfDone_changes _)

theorem State.claimApplies_changes {p : StationId} (c : ClaimFields) (h : p ≠ s.id ∨ s.onLine = false) :
    Changes mark s (s.claimApplies p c) := by
  refine Changes.ite fun on => ?_
  refine (Changes.ite fun _ => (Change.peerPriority p c.priority on).run).trans (Changes.ite fun hm => ?_)
  refine (Change.claimOther p c.units c.slots ?_ hm).run
  split <;> exact h.resolve_right (by simp [on])

theorem State.takeGrant_changes (c : ClaimFields) (h : s.member.station = .member) :
    Changes mark s ((s.withMap (s.map.admission s.beff s.id c.units c.slots)).takeGrant
      (s.map.granted s.beff s.id c.units c.slots)) := by
  have drives := State.drives_of_member h
  unfold State.takeGrant
  dsimp only
  split
  · exact (Change.grantBack c.units c.slots h).run.trans (State.queueRelease_changes _ drives)
  · next hq =>
    split
    · exact (Change.grantReleasing c.units c.slots h).run.trans (State.queueRelease_changes _ drives)
    · have quorate : s.quorate = true := Bool.not_eq_false _ ▸ hq
      exact (Change.grantTaken c.units c.slots quorate).run

theorem State.ownClaimApplies_changes {c : ClaimFields} (h : s.outbox.inFlight = some (.claim c)) :
    Changes mark s (s.afterSent.ownClaimApplies c) := by
  unfold State.ownClaimApplies
  dsimp only
  split
  · next hm =>
    exact ((State.afterSent_endClaim_changes h).trans (State.announce_changes c.priority _)).trans
      (State.takeGrant_changes c hm)
  · exact s.afterSent_changes.trans (State.announce_changes c.priority _)

/-! ### Slots, the gap and the other timers -/

theorem State.slotEnds_changes (s : State) : Changes mark s s.slotEnds := by
  unfold State.slotEnds
  split
  · next j e hp =>
    split
    · next k hk =>
      have : (s.pass (s.slotTicks - e)).timer.phase =
          .inSlot j (runTimer s.slotTicks e (s.slotTicks - e)) := by
        simp [State.pass, hp]
      exact (Change.pass _).run.step (.slotBegins j k _ this hk)
    · exact .refl
  · exact .refl

/-- The gap has no slot for the output to follow (R126). -/
theorem State.syncOutput_of_inGap {e : Nat} {a : CycleNumber} (h : s.timer.phase = .inGap e a) :
    s.syncOutput = s := by
  simp [State.syncOutput, h]

/-- A waiting CLAIM and the planner, fitted to the room that is left (R99). -/
def fitted (room : Nat) (claim : Option SlotSet) (pl : ClaimPlanner) : Option SlotSet × ClaimPlanner :=
  if claim.isSome then
    if room = 0 then (none, { pl with claimOutstanding := false, pickOrder := [] })
    else if room < pl.pickOrder.length then
      (some (slotSetOf (pl.pickOrder.take room)), { pl with pickOrder := pl.pickOrder.take room })
    else (claim, pl)
  else (claim, pl)

theorem State.fitClaim_eq (s : State) : s.fitClaim =
    (s.withOutbox { s.outbox with claim := (fitted (s.headWant - s.heldCount) s.outbox.claim s.planner).1 }).withPlanner
      (fitted (s.headWant - s.heldCount) s.outbox.claim s.planner).2 := by
  unfold State.fitClaim State.withdrawClaim fitted
  by_cases hc : s.outbox.claim.isSome = true
  · dsimp only
    rw [if_pos hc, if_pos hc]
    by_cases hr : s.headWant - s.heldCount = 0
    · rw [if_pos hr, if_pos hr, if_pos hc]
      rfl
    · rw [if_neg hr, if_neg hr]
      split <;> rfl
  · rw [if_neg hc, if_neg hc]
    rfl

theorem State.fitClaim_withOutput (out : LoadOutput) (s : State) :
    (s.withOutput out).fitClaim = s.fitClaim.withOutput out := by
  rw [State.fitClaim_eq, State.fitClaim_eq]
  rfl

/-- In the gap a head change leaves the output alone. -/
theorem State.headChange_withOutput_of_inGap {e : Nat} {a : CycleNumber} (out : LoadOutput)
    (h : s.timer.phase = .inGap e a) : (s.withOutput out).headChange = s.headChange.withOutput out := by
  have surplus (u : State) (hu : u.timer = s.timer) (k : Nat) : u.releaseSurplus k =
      (u.withHoldings (releaseEntries (fun i => (u.heldSlots.drop k).contains i) u.holdings)).queueRelease
        (slotSetOf (u.heldWhere fun i => (u.heldSlots.drop k).contains i)) := by
    refine State.syncOutput_of_inGap (e := e) (a := a) ?_
    exact (congrArg CycleTimer.phase hu).trans h
  unfold State.headChange
  dsimp only
  rw [surplus s rfl, surplus (s.withOutput out) rfl]
  exact congrArg (fun u => u.withDemands (clearServed u.demands)) (State.fitClaim_withOutput out
    ((s.withHoldings (releaseEntries (fun i => (s.heldSlots.drop s.headWant).contains i) s.holdings)).queueRelease
      (slotSetOf (s.heldWhere fun i => (s.heldSlots.drop s.headWant).contains i))))

/-- In the gap the end of a cycle leaves the output alone. -/
theorem State.cycleEnd_withOutput_of_inGap {e : Nat} {a : CycleNumber} (out : LoadOutput)
    (h : s.timer.phase = .inGap e a) : (s.withOutput out).cycleEnd = s.cycleEnd.withOutput out := by
  have completed (u : State) (hu : u.timer.phase = .inGap e a) :
      (u.withOutput out).completeDemand = u.completeDemand.withOutput out := by
    unfold State.completeDemand
    dsimp only [State.demands_withOutput]
    split
    · rfl
    · next d ds _ =>
      split
      · rw [State.note_after, State.note_after]
        exact State.headChange_withOutput_of_inGap (s := (u.withDemands ds).withNotes _) out hu
      · rfl
  unfold State.cycleEnd
  dsimp only [State.demands_withOutput]
  split
  · rfl
  · next d ds _ =>
    rw [show (s.withOutput out).member = s.member from rfl,
      show (s.withOutput out).activeCount = s.activeCount from rfl]
    split
    · exact completed (s.withDemands ({ d with remaining := d.remaining - 1 } :: _)) h
    · rfl

theorem State.gapBegins_changes {j : SlotIndex} {e : Nat} (h : s.timer.phase = .inSlot j e) :
    Changes mark s s.gapBegins := by
  unfold State.gapBegins
  dsimp only
  have ended : Changes mark s ((s.withTimer { s.timer with
      phase := .inGap 0 (s.timer.cycle + 1), planningDue := false }).cycleEnd.outputOff) := by
    have := (Change.gapBegins (mark := mark) j e h).run.trans (State.cycleEnd_changes _)
    unfold State.outputOff at this ⊢
    rwa [State.cycleEnd_withOutput_of_inGap (e := 0) (a := s.timer.cycle + 1) _ rfl] at this
  exact ended.trans (Changes.ite fun hm => State.queueMark_changes _ (State.drives_of_member hm))

theorem State.cycleRunsOut_changes (s : State) : Changes mark s s.cycleRunsOut := by
  unfold State.cycleRunsOut
  split
  · next j e hp =>
    refine Changes.ite fun _ => ?_
    have phase : (s.pass (s.slotTicks - e)).timer.phase =
        .inSlot j (runTimer s.slotTicks e (s.slotTicks - e)) := by
      simp [State.pass, hp]
    exact (Change.pass _).run.trans (State.gapBegins_changes phase)
  · exact .refl

/-- Passing time leaves the station state. -/
@[simp] theorem State.station_pass (n : Nat) (s : State) : (s.pass n).member.station = s.member.station := by
  rw [(s.pass_spec n).2.2.1]

theorem State.markTimesOut_changes (s : State) : Changes mark s s.markTimesOut := by
  unfold State.markTimesOut
  split
  · refine Changes.ite fun hm => (Change.pass _).run.trans (State.enterLapsed_changes _ ?_)
    simpa using hm
  · exact .refl

theorem State.foundingRunsOut_changes (s : State) : Changes mark s s.foundingRunsOut :=
  Changes.ite fun hj => (Change.pass _).run.trans (State.found_changes (by simpa using hj))

theorem State.lapseWaitRunsOut_changes (s : State) : Changes mark s s.lapseWaitRunsOut :=
  Changes.ite fun hl => (Change.pass _).run.trans (State.enterJoining_changes (.inr (by simpa using hl)))

theorem State.onPointComes_changes (s : State) : Changes mark s s.onPointComes := by
  unfold State.onPointComes
  split
  · next k e hp =>
    refine Changes.ite fun lead => (Change.pass _).run.step (.onPoint k
      (runTimer s.slotTicks e (s.guardTicks - e)) ?_ ?_)
    · simp [State.pass, hp]
    · simpa using lead
  · exact .refl

theorem State.tailPointComes_changes (s : State) : Changes mark s s.tailPointComes := by
  unfold State.tailPointComes
  split
  · next k e hp =>
    refine Changes.ite fun on => (Change.pass _).run.step (.tailPoint k
      (runTimer s.slotTicks e (s.slotTicks - s.guardTicks - e)) ?_ ?_)
    · simp [State.pass, hp]
    · simpa using on.1
  · exact .refl

/-! ### The planning point -/

theorem State.planClaim_changes (s : State) : Changes mark s s.planClaim := by
  unfold State.planClaim
  split
  · exact .refl
  · next d _ _ =>
    refine Changes.ite fun may => ?_
    simp only [State.mayPlan, Bool.and_eq_true, Bool.not_eq_true'] at may
    dsimp only
    split
    · exact .refl
    · next picks => exact (Change.plans _ may.1.1 may.1.2 picks).run

theorem State.planningPointComes_changes (s : State) : Changes mark s s.planningPointComes := by
  unfold State.planningPointComes
  split
  · exact Changes.ite fun _ => (Change.planned.run.trans (State.planClaim_changes _)).trans
      (Changes.ite fun _ => (Change.snap _).run)
  · exact .refl

/-! ### The share line -/

/-- The notice that an attempt sends, in flight already or taken into flight now (R144). -/
theorem State.readyNotice_changes {o : Outbox} {l : LineController} (drives : s.drives = true)
    (h : s.readyNotice = some (o, l)) :
    Changes mark s (s.withOutbox o) ∧ (s.LineRanges → (s.withLine l).LineRanges) ∧ l.closing = s.line.closing := by
  unfold State.readyNotice at h
  split at h
  · cases h
    exact ⟨.refl, fun h => h, rfl⟩
  · split at h
    · next n rest hn =>
      cases h
      refine ⟨(Change.flies n rest drives hn).run, fun hr => ?_, rfl⟩
      obtain ⟨hi, -, -, hf⟩ := hr
      exact ⟨hi, Nat.zero_le _, Nat.zero_le _, hf⟩
    · cases h

theorem State.beginAttempt_changes {o : Outbox} {l : LineController} (drives : s.drives = true)
    (h : s.readyNotice = some (o, l)) : Changes mark s (s.beginAttempt o l) := by
  obtain ⟨taken, ranges, closing⟩ := State.readyNotice_changes (mark := mark) drives h
  refine taken.step (.line _ (.inr (.inr drives)) (fun hr => ?_) fun hc => closing ▸ hc)
  obtain ⟨-, ha, hc, hf⟩ := ranges hr
  exact ⟨Nat.zero_le _, ha, hc, hf⟩

theorem State.drives_pass (n : Nat) (s : State) : (s.pass n).drives = s.drives := by
  unfold State.drives
  rw [State.station_pass]

theorem State.attemptStarts_changes (s : State) : Changes mark s s.attemptStarts := by
  refine Changes.ite fun h => ?_
  dsimp only
  split
  · next o l hr =>
    exact (Change.pass _).run.trans (State.beginAttempt_changes ((State.drives_pass _ s).trans h.1) hr)
  · exact .refl

/-- A change of the receiver and of the times of the line. -/
theorem State.receiver_changes {l : LineController} (tx : l.tx = .silent ∨ l.tx = s.line.tx) (idle : l.idleTime = 0)
    (attempts : l.attempts = s.line.attempts) (clashes : l.clashes = s.line.clashes)
    (faults : l.receiveFaults = s.line.receiveFaults) (closing : l.closing = true → s.line.closing = true) :
    Changes mark s (s.withLine l) := by
  refine (Change.line l (tx.elim .inl LineController.tx_stays) (fun h => ?_) closing).run
  obtain ⟨-, ha, hc, hf⟩ := h
  exact ⟨idle ▸ Nat.zero_le _, attempts ▸ ha, clashes ▸ hc, faults ▸ hf⟩

theorem State.startPulse_changes (early : Nat) (s : State) : Changes mark s (s.startPulse early) := by
  unfold State.startPulse
  refine Changes.ite fun h => .trans (b := s.idleUntil early) (Change.pass _).run ?_
  dsimp only
  split
  · exact State.receiver_changes (.inr rfl) rfl rfl rfl rfl fun h => h
  split
  · next hd =>
    split
    · next o l hr => exact State.beginAttempt_changes hd.1 hr
    · exact State.receiver_changes (.inr rfl) rfl rfl rfl rfl fun h => h
  · exact State.receiver_changes (.inr rfl) rfl rfl rfl rfl fun h => h

theorem State.losesArbitration_changes (s : State) : Changes mark s s.losesArbitration :=
  Changes.ite fun _ => (Change.line { s.line with tx := .silent } (.inl rfl) (fun h => h) fun h => h).run

theorem State.receiveErrorSeen_changes (e : ReceiveError) (s : State) :
    Changes mark s (s.receiveErrorSeen e) := by
  refine Changes.ite fun _ => ?_
  split
  · next drives =>
    exact (Change.line { s.line with tx := .breaking true } (.inr (.inr drives)) (fun h => h) fun h => h).run
  · exact Changes.ite fun _ => State.receiver_changes (.inr rfl) rfl rfl rfl rfl fun h => by cases h

theorem State.receiveFaultIfDue_changes (s : State) : Changes mark s s.receiveFaultIfDue :=
  Changes.ite fun h => State.enterFaulted_changes _ h.1

theorem State.breakEnds_changes (s : State) : Changes mark s s.breakEnds := by
  unfold State.breakEnds
  split
  · next own _ =>
    dsimp only
    refine .trans (b := s.withLine { s.line with
      rx := .idle, idleTime := 0, tx := .silent
      receiveFaults := if own then min Config.receiveFaultLimit (s.line.receiveFaults + 1)
        else s.line.receiveFaults }) ?_ (Changes.ite fun _ => State.receiveFaultIfDue_changes _)
    refine Changes.line (.inl rfl) (fun h => ?_) fun h => h
    obtain ⟨-, ha, hc, hf⟩ := h
    refine ⟨Nat.zero_le _, ha, hc, ?_⟩
    simp only [State.line_withLine]
    split
    · exact Nat.min_le_left _ _
    · exact hf
  · exact Changes.ite fun _ => State.receiver_changes (.inr rfl) rfl rfl rfl rfl fun h => h

theorem State.breakSeen_changes (s : State) : Changes mark s s.breakSeen := by
  refine Changes.ite fun _ => ?_
  split
  · exact (Change.line { s.line with rx := .brk, closing := false, tx := .silent, broken := some false } (.inl rfl)
      (fun h => h) fun h => by cases h).run
  · exact (Change.line { s.line with rx := .brk, closing := false } (LineController.tx_stays rfl) (fun h => h)
      fun h => by cases h).run

theorem State.unlessBreaking_changes {f : State → State} (h : Changes mark s (f s)) :
    Changes mark s (s.unlessBreaking f) := by
  unfold State.unlessBreaking
  split
  · exact .refl
  · exact h

/-- A notice that has failed leaves flight, with the rule of its kind (R137, R138). -/
theorem State.failureRule_changes {n : Notice} (h : s.outbox.inFlight = some n) :
    Changes mark s (s.endFlight.failureRule n) := by
  have flown : Changes mark s s.endFlight := s.endFlight_changes
  unfold State.failureRule
  cases n with
  | mark m =>
    dsimp only
    split
    · next hm => exact flown.trans (State.queueMark_changes _ (State.drives_of_member hm))
    · exact flown
  | sag => exact flown.trans (Changes.ite fun on => State.queueSag_changes (State.drives_of_onLine on.1))
  | contest p x => exact flown
  | release x => exact flown.trans (Changes.ite fun on => State.queueRelease_changes _ (State.drives_of_onLine on))
  | leave => exact flown.trans (Changes.ite State.endLeaving_changes)
  | presence f => exact flown
  | claim c =>
    dsimp only
    split
    · exact State.endFlight_endClaim_changes h
    · exact flown

theorem State.failIfDue_changes (s : State) : Changes mark s s.failIfDue := by
  unfold State.failIfDue
  split
  · next hn => exact Changes.ite fun _ => State.failureRule_changes hn
  · exact .refl

theorem State.clashFaultIfDue_changes (s : State) : Changes mark s s.clashFaultIfDue :=
  Changes.ite fun h => State.enterFaulted_changes _ h.1

theorem State.attemptEndsInBreak_changes (clash : Bool) (s : State) :
    Changes mark s (s.attemptEndsInBreak clash) := by
  refine (.trans (b := s.withLine { s.line with
    broken := none
    attempts := min Config.attemptLimit (s.line.attempts + 1)
    clashes := if clash then min Config.clashLimit (s.line.clashes + 1) else 0 }) ?_
      ((State.clashFaultIfDue_changes _).trans (State.failIfDue_changes _)))
  refine Changes.line (LineController.tx_stays rfl) (fun h => ?_) fun h => h
  obtain ⟨hi, -, -, hf⟩ := h
  refine ⟨hi, Nat.min_le_left _ _, ?_, hf⟩
  simp only [State.line_withLine]
  split
  · exact Nat.min_le_left _ _
  · exact Nat.zero_le _

theorem State.attemptBreaks_changes (s : State) : Changes mark s s.attemptBreaks := by
  unfold State.attemptBreaks
  split
  · exact State.attemptEndsInBreak_changes _ _
  · exact Changes.ite fun _ => (Change.line { s.line with rx := .brk, tx := .silent } (.inl rfl) (fun h => h)
      fun h => h).run.trans (State.attemptEndsInBreak_changes _ _)
  · exact .refl

theorem State.mismatchSeen_changes (sent read back : Bool) (s : State) :
    Changes mark s (s.mismatchSeen sent read back) := by
  refine Changes.ite fun h => Changes.line (.inr (.inl ?_)) (fun h => h) fun h => h
  rw [h.1]
  exact TxPhase.noConfusion

/-! ### A mark -/

theorem State.withdrawMark_changes (s : State) : Changes mark s s.withdrawMark := by
  have waits : Changes mark s (s.withOutbox { s.outbox with mark := none }) :=
    (Change.waiting { s.outbox with mark := none } (.inr fun h => by rw [h]; rfl) rfl rfl (fun h => h) fun h => h).run
  unfold State.withdrawMark
  dsimp only
  split
  · refine waits.trans ((Change.flightEnds).run.trans ?_)
    refine Changes.line (LineController.tx_stays rfl) (fun h => ?_) fun h => h
    obtain ⟨hi, -, -, hf⟩ := h
    exact ⟨hi, Nat.zero_le _, Nat.zero_le _, hf⟩
  · exact waits

theorem State.withdrawMark_withOutput (out : LoadOutput) (s : State) :
    s.withdrawMark.withOutput out = (s.withOutput out).withdrawMark := by
  unfold State.withdrawMark
  dsimp only [State.outbox_withOutput, State.outbox_withOutbox, State.line_withOutput, State.line_withOutbox]
  split <;> rfl

@[simp] theorem State.member_withdrawMark (s : State) : s.withdrawMark.member = s.member := by
  unfold State.withdrawMark
  dsimp only
  split <;> rfl

/-- The alignment in one line: slot 0 with the MARK's cycle number, the output as slot 0 begins, and the own MARK
withdrawn (R30, R126). -/
theorem State.align_eq (c : CycleNumber) (s : State) : s.align c =
    ((s.withTimer ⟨.inSlot 0 0, c, if s.member.station = .joining then 0 else s.timer.founding, false⟩).withOutput
      (if s.member.station = .member then ⟨.lead, false⟩ else ⟨.idle, false⟩)).withdrawMark := by
  rw [← State.withdrawMark_withOutput]
  unfold State.align State.outputSlotStart State.outputOff
  dsimp only
  simp only [State.member_withOutput, State.member_withdrawMark, State.member_withTimer]
  split <;> rfl

theorem State.align_changes (c : CycleNumber) (h : s.listens = true) : Changes mark s (s.align c) :=
  s.align_eq c ▸ (Change.aligns c h).run.trans (State.withdrawMark_changes _)

theorem State.truncate_changes (s : State) : Changes mark s s.truncate := by
  unfold State.truncate
  split
  · exact s.cycleEnd_changes
  · exact .refl

@[simp] theorem State.station_truncate (s : State) : s.truncate.member = s.member := by
  unfold State.truncate
  split <;> simp

theorem State.serve_changes (h : s.member.station = .member) : Changes mark s s.serve := by
  unfold State.serve
  split
  · exact .refl
  · next d ds hd =>
    exact Changes.ite fun _ => (State.head_changes (e := { d with served := true }) hd rfl rfl rfl
      fun hm => absurd h hm).trans (State.note_changes _ _)

theorem State.promotionPart_changes (s : State) : Changes mark s s.promotionPart :=
  Changes.ite fun h => (Change.promotes h).run.trans (State.serve_changes h)

theorem State.derateFromMark_changes {m : MarkFields} (s : State) :
    Changes (some m) s (s.derateFromMark m.derate) := by
  unfold State.derateFromMark
  dsimp only
  refine .trans (b := s.withSag { s.sag with derateRemaining := m.derate })
    (Change.sag _ (.inr (.inr rfl))).run ?_
  split
  · exact State.endWindow_changes _
  · exact Changes.ite fun _ => (Change.sag _ (.inl (by rfl))).run.trans (State.note_changes _ _)

/-- Every part of a mark but the silence counts is a run of changes. -/
theorem State.markPart_changes {part : MarkPart} (m : MarkFields) (dup : Bool) (was : StationState)
    (wasAligned : Bool) (s : State) (h : part ≠ .silence) :
    Changes (some m) s (s.markPart m dup was wasAligned part) := by
  cases part with
  | agreement => exact Changes.ite fun h => State.enterFaulted_changes _ h.1
  | duplicateId => exact Changes.ite fun h => State.enterFaulted_changes _ h.1
  | standing => exact Changes.ite fun h => State.lapseIfDue_changes _ (by rfl)
  | joining =>
    exact Changes.ite fun h => (Change.counts _ (by rfl) fun _ => .inl (by rfl)).run.trans
      (State.joinIfDone_changes _)
  | silence => exact absurd rfl h
  | orphans =>
    cases dup with
    | true => exact .refl
    | false => exact Changes.ite fun on => (Change.countdown m.cycle on).run
  | promotion => exact s.promotionPart_changes
  | localHold => exact Changes.ite fun _ => (Change.planner _ (by rfl) (by rfl)).run
  | derate => exact Changes.ite fun _ => s.derateFromMark_changes
  | sagExtension => exact Changes.ite fun h => State.queueSag_changes (State.drives_of_onLine h.1)
  | presence =>
    cases dup with
    | true => exact .refl
    | false => exact Changes.ite fun h => State.queuePresence_changes (State.drives_of_onLine h.1)

/-- One change at a mark: as in any event, or the silence counts rise (R50). -/
inductive MarkChange (m : MarkFields) (s : State) : State → Prop
  | change {t : State} (h : Change (some m) s t) : MarkChange m s t
  | silence (on : s.onLine = true) : MarkChange m s s.raiseSilence

/-- A run of changes at a mark. -/
abbrev MarkChanges (m : MarkFields) : State → State → Prop := Relation.ReflTransGen (MarkChange m)

theorem Changes.atMark {m : MarkFields} (h : Changes (some m) s t) : MarkChanges m s t :=
  Relation.ReflTransGen.lift (p := MarkChange m) (fun u => u) (fun _ _ => .change) _ _ h

theorem State.silencePart_changes (m : MarkFields) (s : State) : MarkChanges m s s.silencePart := by
  have fold (ps : List StationId) (u : State) :
      Changes (some m) u (ps.foldl (fun s p => (s.expirePeer p).orphanAbsent p) u) := by
    induction ps generalizing u with
    | nil => exact .refl
    | cons p ps ih =>
      exact ((State.expirePeer_changes p u).trans (State.orphanAbsent_changes p _)).trans (ih _)
  unfold State.silencePart
  split
  · next on => exact (Relation.ReflTransGen.single (.silence on)).trans (fold _ _).atMark
  · exact .refl

theorem State.applyMark_changes (m : MarkFields) (dup : Bool) (order : List MarkPart) (h : s.listens = true) :
    MarkChanges m s (s.applyMark m dup order) := by
  have fold (parts : List MarkPart) (was : StationState) (wasAligned : Bool) (u : State) :
      MarkChanges m u (parts.foldl (fun s p => s.markPart m dup was wasAligned p) u) := by
    induction parts generalizing u with
    | nil => exact .refl
    | cons p ps ih =>
      refine .trans ?_ (ih _)
      by_cases hp : p = .silence
      · subst hp
        unfold State.markPart
        cases dup with
        | true => exact .refl
        | false => exact u.silencePart_changes m
      · exact (u.markPart_changes m dup was wasAligned hp).atMark
  have listens : s.truncate.listens = true := by
    unfold State.listens State.drives at h ⊢
    rwa [State.station_truncate]
  exact (s.truncate_changes.atMark.trans (State.align_changes m.cycle listens).atMark).trans (fold _ _ _ _)

/-- A mark is a run of changes, and its derate field is in range where the Outbox keeps its law (R165). -/
theorem execMarkComplete_changes (p : StationId) (m : MarkFields) (order : List MarkPart) (s : State) :
    ∃ t, execMarkComplete p m order s = .next t ∧ MarkChanges m s t ∧
      (t = s ∨ (s.OutboxLaw → m.derate ≤ 14)) := by
  refine ⟨_, rfl, ?_⟩
  have fair {q : StationId} (h : noticeWellFormed q (.mark m) = true) : m.derate ≤ 14 := by
    simp only [noticeWellFormed, Bool.and_eq_true, decide_eq_true_eq] at h
    omega
  unfold State.unlessHeld
  split
  · exact ⟨.refl, .inl rfl⟩
  unfold State.markCompletes
  rcases s.landing_cases p (.mark m) with h | ⟨l, -, -, hf, h⟩ | ⟨l, -, -, -, hw, h⟩ | ⟨l, -, -, hw, h⟩ <;> simp only [h]
  · exact ⟨.refl, .inl trivial⟩
  · refine ⟨s.afterSent_changes.atMark.trans (State.applyMark_changes m false order l), .inr fun law => ?_⟩
    obtain ⟨-, -, -, flight, -⟩ := law
    rw [hf] at flight
    exact fair (q := s.id) flight
  · exact ⟨s.afterHeard_changes.atMark.trans (State.applyMark_changes m true order l), .inr fun _ => fair hw⟩
  · exact ⟨s.afterHeard_changes.atMark.trans (State.applyMark_changes m false order l), .inr fun _ => fair hw⟩

/-! ### Every command -/

/-- The power-on condition, held or started, that the reset commands lead to (R61, R62). -/
def State.Resets (s t : State) : Prop :=
  t = s ∨ ∃ (held : Bool) (p : StationId) (x : HostPort) (q : NotificationQueue),
    q.records.length ≤ Config.noteCapacity ∧
    t = ((((s.withRstn held).cleared none .powerOn).withId p).withPort x).withNotes q

theorem State.start_resets (held : Bool) (pins : ResetPins) (s : State) :
    s.Resets ((s.withRstn held).start pins) := by
  unfold State.start State.noteState
  obtain ⟨q, hq, cap, -⟩ := State.note_spec (.state .offline .powerOn 0)
    ((((s.withRstn held).cleared none .powerOn).withId pins.id).withPort
      { HostPort.cleared with abandoned := pins.csnLow })
  exact .inr ⟨held, pins.id, _, q, cap (Nat.zero_le _), hq⟩

theorem State.cleared_resets (held : Bool) (s : State) : s.Resets ((s.withRstn held).cleared none .powerOn) :=
  .inr ⟨held, s.id, HostPort.cleared, ⟨[], false⟩, Nat.zero_le _, rfl⟩

/-- The commands of Section 4.2. -/
def isResetCommand : Instr → Bool
  | .powerOn _ | .rstnAsserted | .rstnNegated _ => true
  | _ => false

theorem exec_reset {c : Instr} (h : isResetCommand c = true) (s : State) : ∃ t, exec c s = .next t ∧ s.Resets t := by
  cases c with
  | powerOn pins =>
    refine ⟨_, rfl, ?_⟩
    unfold State.powerUp
    split
    · exact s.cleared_resets s.rstn
    · exact s.start_resets s.rstn pins
  | rstnAsserted => exact ⟨_, rfl, s.cleared_resets true⟩
  | rstnNegated pins =>
    refine ⟨_, rfl, ?_⟩
    unfold State.releaseReset
    split
    · exact s.start_resets false pins
    · exact .inl rfl
  | _ => cases h

/-- What SETUP leads to: the port changes alone, or in OFFLINE a valid record is taken with it (R152). -/
def State.SetsUp (s t : State) : Prop :=
  ∃ x : HostPort, t = s.withPort x ∨
    ∃ r : Setup, r.valid = true ∧ s.member.station = .offline ∧ t = (s.acceptSetup r).withPort x

theorem stagedSetup_valid {bs : List Byte} {r : Setup} (h : stagedSetup bs = some r) : r.valid = true := by
  unfold stagedSetup at h
  grind

theorem exec_setup (f : HostFrame) (s : State) : ∃ t, exec (.setup f) s = .next t ∧ s.SetsUp t := by
  refine ⟨_, rfl, ?_⟩
  unfold State.command
  rcases s.transaction_cases (.setup f) f
      (fun s => if badFrame 12 f then s.respond 0x01 .badFrame [] else s.setupCommand f) with
    ⟨-, -, e⟩ | ⟨-, -, -, e⟩ | e <;> rw [e]
  · exact ⟨_, .inl rfl⟩
  · split
    · exact ⟨_, .inl rfl⟩
    unfold State.setupCommand
    split
    · next off =>
      unfold State.judgeStaging
      dsimp only
      split
      · next r hr =>
        obtain ⟨bs, -, hbs⟩ := Option.bind_eq_some_iff.1 hr
        exact ⟨_, .inr ⟨r, stagedSetup_valid hbs, off, rfl⟩⟩
      · exact ⟨_, .inl rfl⟩
    · exact ⟨_, .inl rfl⟩
  · exact ⟨s.port, .inl rfl⟩

/-- Every command but a reset, SETUP and a MARK is a run of changes. -/
theorem exec_changes (c : Instr) (s : State) (reset : isResetCommand c = false) (setup : ∀ f, c ≠ .setup f)
    (marks : ∀ p m order, c ≠ .markComplete p m order) : ∃ t, exec c s = .next t ∧ Changes none s t := by
  cases c with
  | powerOn pins => cases reset
  | rstnAsserted => cases reset
  | rstnNegated pins => cases reset
  | setup f => exact absurd rfl (setup f)
  | markComplete p m order => exact absurd rfl (marks p m order)
  | nop f => exact ⟨_, rfl, State.command_changes _ _ _ _ (State.respond_changes _ _ _ _)⟩
  | enter f => exact ⟨_, rfl, State.command_changes _ _ _ _ s.enterCommand_changes⟩
  | leave f => exact ⟨_, rfl, State.command_changes _ _ _ _ s.leaveCommand_changes⟩
  | restart f =>
    exact ⟨_, rfl, State.command_changes _ _ _ _ (s.restart_changes.trans (State.respond_changes _ _ _ _))⟩
  | demandAppend f => exact ⟨_, rfl, State.command_changes _ _ _ _ (s.appendCommand_changes f)⟩
  | demandReplace f => exact ⟨_, rfl, State.command_changes _ _ _ _ (s.replaceCommand_changes f)⟩
  | withdraw f => exact ⟨_, rfl, State.command_changes _ _ _ _ (s.withdrawCommand_changes f)⟩
  | status f => exact ⟨_, rfl, State.command_changes _ _ _ _ s.statusCommand_changes⟩
  | nextNote f => exact ⟨_, rfl, State.command_changes _ _ _ _ s.nextNoteCommand_changes⟩
  | snap f => exact ⟨_, rfl, State.command_changes _ _ _ _ s.snapCommand_changes⟩
  | snapRead f => exact ⟨_, rfl, State.command_changes _ _ _ _ (s.snapReadCommand_changes _)⟩
  | peersRead f => exact ⟨_, rfl, State.command_changes _ _ _ _ (s.peersReadCommand_changes _)⟩
  | queueRead f => exact ⟨_, rfl, State.command_changes _ _ _ _ (State.respond_changes _ _ _ _)⟩
  | unknownCommandCode code f => exact ⟨_, rfl, State.transaction_changes _ _ (State.respond_changes _ _ _ _)⟩
  | saginChange b => exact ⟨_, rfl, s.saginMoves_changes b⟩
  | sagConditionChange => exact ⟨_, rfl, State.unlessHeld_changes s.conditionChanges_changes⟩
  | peerExpiry p => exact ⟨_, rfl, State.unlessHeld_changes (s.expirePeer_changes p)⟩
  | absentPeerOrphaned p => exact ⟨_, rfl, State.unlessHeld_changes (s.orphanAbsent_changes p)⟩
  | orphanCountdownEnd k p =>
    exact ⟨_, rfl, State.unlessHeld_changes (Changes.ite fun on => (Change.orphanSpent k p on).run)⟩
  | standingLapse =>
    exact ⟨_, rfl, State.unlessHeld_changes (Changes.ite fun h => State.enterLapsed_changes _ h.1)⟩
  | joiningCompletion => exact ⟨_, rfl, State.unlessHeld_changes s.joinIfDone_changes⟩
  | windowEnd => exact ⟨_, rfl, State.unlessHeld_changes s.windowEnds_changes⟩
  | yieldHoldEnd =>
    exact ⟨_, rfl, State.unlessHeld_changes (Changes.ite fun _ => (Change.planner _ (by rfl) (by rfl)).run)⟩
  | sagComplete p =>
    exact ⟨_, rfl, State.complete_changes
      (fun _ _ => s.afterSent_changes.trans (State.sagApplies_changes _)) fun _ => State.sagApplies_changes _⟩
  | contestComplete p t x =>
    exact ⟨_, rfl, State.complete_changes
      (fun _ _ => s.afterSent_changes.trans (State.contestApplies_changes t x _))
      fun _ => State.contestApplies_changes t x _⟩
  | releaseComplete p x =>
    exact ⟨_, rfl, State.complete_changes
      (fun _ _ => s.afterSent_changes.trans (State.ownReleaseApplies_changes x _))
      fun h => State.releaseApplies_changes x h⟩
  | leaveComplete p =>
    exact ⟨_, rfl, State.complete_changes
      (fun _ _ => s.afterSent_changes.trans (State.ownLeaveApplies_changes _))
      fun h => State.leaveApplies_changes h⟩
  | presenceComplete p f =>
    exact ⟨_, rfl, State.complete_changes
      (fun _ _ => s.afterSent_changes.trans (State.ownPresenceApplies_changes f _))
      fun h => State.presenceApplies_changes f h⟩
  | claimComplete p c =>
    exact ⟨_, rfl, State.complete_changes (fun _ hf => State.ownClaimApplies_changes hf)
      fun h => State.claimApplies_changes c h⟩
  | slotBoundary => exact ⟨_, rfl, State.unlessHeld_changes s.slotEnds_changes⟩
  | planningPoint => exact ⟨_, rfl, State.unlessHeld_changes s.planningPointComes_changes⟩
  | markGapBegin => exact ⟨_, rfl, State.unlessHeld_changes s.cycleRunsOut_changes⟩
  | demandCompleted => exact ⟨_, rfl, State.unlessHeld_changes s.completeDemand_changes⟩
  | markTimeout => exact ⟨_, rfl, State.unlessHeld_changes s.markTimesOut_changes⟩
  | founding => exact ⟨_, rfl, State.unlessHeld_changes s.foundingRunsOut_changes⟩
  | lapseWaitEnd => exact ⟨_, rfl, State.unlessHeld_changes s.lapseWaitRunsOut_changes⟩
  | onPoint => exact ⟨_, rfl, State.unlessHeld_changes s.onPointComes_changes⟩
  | tailPoint => exact ⟨_, rfl, State.unlessHeld_changes s.tailPointComes_changes⟩
  | attemptStart => exact ⟨_, rfl, State.unlessHeld_changes s.attemptStarts_changes⟩
  | arbitrationLost => exact ⟨_, rfl, State.unlessHeld_changes s.losesArbitration_changes⟩
  | receiveError e => exact ⟨_, rfl, State.unlessHeld_changes (s.receiveErrorSeen_changes e)⟩
  | readbackMismatch sent read back =>
    exact ⟨_, rfl, State.unlessHeld_changes (s.mismatchSeen_changes sent read back)⟩
  | breakEnd => exact ⟨_, rfl, State.unlessHeld_changes s.breakEnds_changes⟩
  | lineBreakSeen => exact ⟨_, rfl, State.unlessHeld_changes s.breakSeen_changes⟩
  | attemptBroken =>
    exact ⟨_, rfl, State.unlessHeld_changes (State.unlessBreaking_changes s.attemptBreaks_changes)⟩
  | transmitFailure =>
    exact ⟨_, rfl, State.unlessHeld_changes (State.unlessBreaking_changes s.failIfDue_changes)⟩
  | clashFault =>
    exact ⟨_, rfl, State.unlessHeld_changes (State.unlessBreaking_changes s.clashFaultIfDue_changes)⟩
  | receiveFault =>
    exact ⟨_, rfl, State.unlessHeld_changes (State.unlessBreaking_changes s.receiveFaultIfDue_changes)⟩
  | frameReceptionBegin early => exact ⟨_, rfl, State.unlessHeld_changes (s.startPulse_changes early)⟩

/-! ### The induction over a step -/

/-- What every change keeps, a run of changes keeps. -/
theorem Changes.keeps {Law : State → Prop} (change : ∀ s t, Change mark s t → Law s → Law t)
    (h : Changes mark s t) (law : Law s) : Law t := by
  induction h with
  | refl => exact law
  | tail _ h ih => exact change _ _ h ih

theorem MarkChanges.keeps {Law : State → Prop} {m : MarkFields}
    (change : ∀ s t, Change (some m) s t → Law s → Law t) (silence : ∀ s, s.onLine = true → Law s → Law s.raiseSilence)
    (h : MarkChanges m s t) (law : Law s) : Law t := by
  induction h with
  | refl => exact law
  | tail _ h ih =>
    cases h with
    | change h => exact change _ _ h ih
    | silence on => exact silence _ on ih

/-- What a step is: time on an empty queue, or the front command on the state with the queue's rest. -/
theorem step_cases (h : step s = .next t) : t = s.pass 1 ∨ ∃ q, (s.withPending q).Resets t ∨
    (s.withPending q).SetsUp t ∨ Changes none (s.withPending q) t ∨
    ∃ p m order, execMarkComplete p m order (s.withPending q) = .next t := by
  unfold step at h
  split at h
  · next c cs _ =>
    refine .inr ⟨cs, ?_⟩
    have det {u : State} (hu : exec c (s.withPending cs) = .next u) : u = t := by
      rw [h] at hu
      exact (Host.Outcome.next.inj hu).symm
    by_cases hr : isResetCommand c = true
    · obtain ⟨u, hu, r⟩ := exec_reset hr (s.withPending cs)
      exact .inl (det hu ▸ r)
    by_cases hs : ∃ f, c = .setup f
    · obtain ⟨f, rfl⟩ := hs
      obtain ⟨u, hu, r⟩ := exec_setup f (s.withPending cs)
      exact .inr (.inl (det hu ▸ r))
    by_cases hm : ∃ p m order, c = .markComplete p m order
    · obtain ⟨p, m, order, rfl⟩ := hm
      exact .inr (.inr (.inr ⟨p, m, order, h⟩))
    · obtain ⟨u, hu, r⟩ := exec_changes c (s.withPending cs) (by simpa using hr) (fun f e => hs ⟨f, e⟩)
        fun p m o e => hm ⟨p, m, o, e⟩
      exact .inr (.inr (.inl (det hu ▸ r)))
  · cases h
    exact .inl rfl

/-- What a station holds of a law that the queue of commands has no part in, every step keeps, if a reset, SETUP and
every change keep it. -/
theorem step_keeps {Law : State → Prop} (pending : ∀ s q, Law s → Law (s.withPending q))
    (reset : ∀ s t, s.Resets t → Law s → Law t) (setup : ∀ s t, s.SetsUp t → Law s → Law t)
    (change : ∀ mark s t, Change mark s t → Law s → Law t)
    (silence : ∀ s, s.onLine = true → Law s → Law s.raiseSilence)
    (h : step s = .next t) (law : Law s) : Law t := by
  rcases step_cases h with rfl | ⟨q, r | r | r | ⟨p, m, order, hm⟩⟩
  · exact change none _ _ (.pass 1) law
  · exact reset _ _ r (pending s q law)
  · exact setup _ _ r (pending s q law)
  · exact r.keeps (change _) (pending s q law)
  · obtain ⟨u, hu, r, -⟩ := execMarkComplete_changes p m order (s.withPending q)
    cases hm.symm.trans hu
    exact r.keeps (change _) silence (pending s q law)

end Sys2Proof.Machine
end

section
/-!
PROOF. What every change leaves alone, and the laws that need little more: the ranges of the line, the Notification
Queue, the Demand Queue and the setup.
-/

namespace Sys2Proof.Machine

variable {mark : Option MarkFields} {s t : State}

/-! ### Frames of the changes -/

@[simp] theorem State.decideOn_eq (k : SlotIndex) (s : State) : s.decideOn k =
    s.withOutput (if s.quorate ∧ s.activeAt k then { s.output with phase := .on } else ⟨.idle, false⟩) := by
  unfold State.decideOn State.outputOff
  split <;> rfl

@[simp] theorem State.decideTail_eq (k : SlotIndex) (s : State) : s.decideTail k =
    s.withOutput (if s.carries k then ⟨.on, true⟩ else ⟨.tail, false⟩) := by
  unfold State.decideTail
  split <;> rfl

@[simp] theorem State.endClaim_eq (s : State) : s.endClaim =
    s.withPlanner { s.planner with claimOutstanding := false, pickOrder := [] } := rfl

@[simp] theorem State.outputOff_eq (s : State) : s.outputOff = s.withOutput ⟨.idle, false⟩ := rfl

@[simp] theorem State.addHoldings_eq (st : HoldState) (ks : List SlotIndex) (s : State) : s.addHoldings st ks =
    s.withHoldings (s.holdings ++ ks.map fun k => ⟨k, st⟩) := rfl

@[simp] theorem State.nextSlotBegins_eq (k : SlotIndex) (s : State) : s.nextSlotBegins k =
    (s.withTimer { s.timer with phase := .inSlot k 0, planningDue := k == 1 }).outputSlotStart := rfl

theorem State.outputSlotStart_eq (s : State) : s.outputSlotStart =
    s.withOutput (if s.member.station = .member then if s.output.carry then ⟨.on, false⟩ else ⟨.lead, false⟩
      else ⟨.idle, false⟩) := by
  unfold State.outputSlotStart State.outputOff
  split_ifs <;> rfl

/-- Quorum loss less its records, as a chain of block updates (R77). -/
theorem State.quorumDropped_eq (s : State) : s.quorumDropped =
    ((((s.withMap (s.map.removeLiveOf s.id)).withHoldings []).withOutbox
      { s.outbox.queueRelease (slotSetOf (s.holdings.map Holding.slot)) with claim := none }).withOutput
        ⟨.idle, false⟩).withPlanner
          { s.planner with
            claimOutstanding := s.planner.claimOutstanding && s.outbox.claim.isNone
            pickOrder := if s.outbox.claim.isSome then [] else s.planner.pickOrder } := by
  unfold State.quorumDropped
  dsimp only
  rw [State.withdrawClaim_spec]
  have claim (x : SlotSet) : (s.outbox.queueRelease x).claim = s.outbox.claim := by
    rw [(s.outbox.queueRelease_spec x).1]
  simp only [State.outputOff, State.queueRelease, State.outbox_withOutput, State.outbox_withOutbox,
    State.planner_withOutput, State.planner_withOutbox, State.planner_withHoldings, State.planner_withMap,
    State.outbox_withHoldings, State.outbox_withMap, claim]
  rfl

/-- The live count is handed on with a quorum loss or without. -/
theorem State.settled_cases (n : Nat) (s : State) :
    s.settled n = s ∨ s.member.station = .member ∧ s.settled n = s.quorumDropped := by
  unfold State.settled
  split
  · next h => exact .inr ⟨h.1, rfl⟩
  · exact .inl rfl

@[simp] theorem State.quorumDropped_frame (s : State) :
    s.quorumDropped.pending = s.pending ∧ s.quorumDropped.rstn = s.rstn ∧ s.quorumDropped.id = s.id ∧
    s.quorumDropped.setup = s.setup ∧ s.quorumDropped.line = s.line ∧ s.quorumDropped.timer = s.timer ∧
    s.quorumDropped.peers = s.peers ∧ s.quorumDropped.member = s.member ∧ s.quorumDropped.demands = s.demands ∧
    s.quorumDropped.sag = s.sag ∧ s.quorumDropped.notes = s.notes := by
  rw [State.quorumDropped_eq]
  simp

@[simp] theorem State.settled_frame (n : Nat) (s : State) :
    (s.settled n).pending = s.pending ∧ (s.settled n).rstn = s.rstn ∧ (s.settled n).id = s.id ∧
    (s.settled n).setup = s.setup ∧ (s.settled n).line = s.line ∧ (s.settled n).timer = s.timer ∧
    (s.settled n).peers = s.peers ∧ (s.settled n).member = s.member ∧ (s.settled n).demands = s.demands ∧
    (s.settled n).sag = s.sag ∧ (s.settled n).notes = s.notes := by
  rcases s.settled_cases n with h | ⟨-, h⟩ <;> rw [h] <;> simp

/-- A change leaves the queue of commands, RSTN, the ID and the setup alone. -/
theorem Change.frame (h : Change mark s t) :
    t.pending = s.pending ∧ t.rstn = s.rstn ∧ t.id = s.id ∧ t.setup = s.setup := by
  cases h
  all_goals simp [State.lapsed, State.faulted, State.left, State.joining, State.leaving, State.asMember,
    State.cleared, State.queueLeave]

/-- The station states that a change leads to, and from which (Table 4-3). -/
theorem Change.station_cases (h : Change mark s t) :
    t.member.station = s.member.station ∨ t.member.station = .offline ∨
    (t.member.station = .joining ∧ (s.setup.isSome = true ∨ s.member.station = .lapsed) ∧ s.drives = false) ∨
    (t.member.station = .member ∧ s.member.station = .joining) ∨
    (t.member.station = .leaving ∧ s.onLine = true) ∨
    (t.member.station = .lapsed ∧ s.member.station = .member) ∨
    (t.member.station = .faulted ∧ s.onLine = true) := by
  cases h with
  | counts x station => exact .inl station
  | pass n => exact .inl (State.station_pass n s)
  | restarts c => exact .inr (.inl rfl)
  | joins ready =>
    refine .inr (.inr (.inl ⟨rfl, ready.imp And.right id, ?_⟩))
    rcases ready with ⟨h, -⟩ | h <;> simp [State.drives, h]
  | becomesMember tm joining => exact .inr (.inr (.inr (.inl ⟨rfl, joining⟩)))
  | leaves on => exact .inr (.inr (.inr (.inr (.inl ⟨rfl, on⟩))))
  | goesOffline => exact .inr (.inl rfl)
  | lapses c member => exact .inr (.inr (.inr (.inr (.inr (.inl ⟨rfl, member⟩)))))
  | faults c on => exact .inr (.inr (.inr (.inr (.inr (.inr ⟨rfl, on⟩)))))
  | _ => exact .inl (by simp)

/-! ### The setup -/

theorem Change.setupLaw (h : Change mark s t) (law : s.SetupLaw) : t.SetupLaw := by
  obtain ⟨valid, held⟩ := law
  obtain ⟨-, -, -, setup⟩ := h.frame
  refine ⟨setup ▸ valid, fun off => setup ▸ ?_⟩
  rcases h.station_cases with e | e | ⟨-, e | e, -⟩ | ⟨-, e⟩ | ⟨-, e⟩ | ⟨-, e⟩ | ⟨-, e⟩
  · exact held (e ▸ off)
  · exact absurd e off
  · exact e
  all_goals
    refine held fun h => ?_
    simp [State.onLine, h] at e

theorem State.SetsUp.setupLaw (h : s.SetsUp t) (law : s.SetupLaw) : t.SetupLaw := by
  obtain ⟨x, rfl | ⟨r, valid, -, rfl⟩⟩ := h
  · exact law
  · exact ⟨valid, fun _ => rfl⟩

theorem State.Resets.setupLaw (h : s.Resets t) (law : s.SetupLaw) : t.SetupLaw := by
  obtain rfl | ⟨held, p, x, q, -, rfl⟩ := h
  · exact law
  · exact ⟨rfl, fun h => absurd rfl h⟩

theorem setupLaw_kept (h : step s = .next t) (law : s.SetupLaw) : t.SetupLaw :=
  step_keeps (Law := State.SetupLaw) (fun _ _ h => h) (fun _ _ => State.Resets.setupLaw)
    (fun _ _ => State.SetsUp.setupLaw) (fun _ _ _ => Change.setupLaw) (fun _ _ h => h) h law

/-! ### The line -/

theorem Change.driveLaw (h : Change mark s t) (law : s.DriveLaw) : t.DriveLaw := by
  cases h with
  | line l tx =>
    intro driving
    have : l.tx ≠ .silent := by
      intro h
      simp [State.drivingLine, h] at driving
    rcases tx with h | h | h
    · exact absurd h this
    · refine law ?_
      unfold State.drivingLine
      split
      · exact absurd ‹_› h
      · rfl
    · exact h
  | pass n =>
    intro driving
    rw [State.drives_pass]
    refine law ?_
    unfold State.drivingLine at driving ⊢
    rwa [(s.pass_spec n).2.2.2.2] at driving
  | counts x station =>
    intro driving
    have := law driving
    unfold State.drives at this ⊢
    rwa [State.member_withMember, station]
  | becomesMember => exact fun _ => rfl
  | leaves => exact fun _ => rfl
  | restarts | joins | goesOffline | lapses | faults => exact fun h => by cases h
  | _ => simpa [State.DriveLaw, State.drivingLine, State.drives] using law

theorem Change.lineRanges (h : Change mark s t) (law : s.LineRanges) : t.LineRanges := by
  cases h with
  | line l tx ranges => exact ranges law
  | pass n =>
    obtain ⟨idle, rest⟩ := law
    refine ⟨?_, rest⟩
    simp only [State.pass, State.line_withLine]
    split
    · exact Nat.min_le_left _ _
    · exact idle
  | restarts | joins | goesOffline | lapses | faults =>
    exact ⟨Nat.zero_le _, Nat.zero_le _, Nat.zero_le _, Nat.zero_le _⟩
  | becomesMember => exact law
  | leaves => exact law
  | _ => simpa [State.LineRanges] using law

theorem Change.closingLaw (h : Change mark s t) (law : s.ClosingLaw) : t.ClosingLaw := by
  cases h with
  | line l tx ranges closing => exact fun h => law (closing h)
  | pass n =>
    intro h
    rw [State.station_pass]
    refine law ?_
    simp only [State.pass, State.line_withLine, Bool.and_eq_true] at h
    exact h.1
  | counts x station => exact fun h => station.trans (law h)
  | becomesMember tm joining => exact fun h => absurd (joining.symm.trans (law h)) (by decide)
  | leaves on =>
    intro h
    rcases s.onLine_iff.1 on with e | e <;> exact absurd (e.symm.trans (law h)) (by decide)
  | lapses => exact fun _ => rfl
  | restarts | joins | goesOffline | faults => exact fun h => by cases h
  | _ => simpa [State.ClosingLaw] using law

/-- A law that the reset state has, that only names blocks which SETUP leaves alone, and that every change keeps. -/
theorem law_kept {Law : State → Prop} (pending : ∀ s q, Law s → Law (s.withPending q))
    (reset : ∀ s t, s.Resets t → Law s → Law t) (port : ∀ s x, Law s → Law (s.withPort x))
    (setup : ∀ s r, r.valid = true → s.member.station = .offline → Law s → Law (s.acceptSetup r))
    (change : ∀ mark s t, Change mark s t → Law s → Law t) (silence : ∀ s, s.onLine = true → Law s → Law s.raiseSilence)
    (h : step s = .next t) (law : Law s) : Law t := by
  refine step_keeps pending reset (fun s t hs law => ?_) change silence h law
  obtain ⟨x, rfl | ⟨r, valid, off, rfl⟩⟩ := hs
  · exact port _ _ law
  · exact port _ _ (setup _ _ valid off law)

theorem driveLaw_kept (h : step s = .next t) (law : s.DriveLaw) : t.DriveLaw := by
  refine law_kept (Law := State.DriveLaw) (fun _ _ h => h) (fun s t r law => ?_) (fun _ _ h => h)
    (fun _ _ _ _ h => h) (fun _ _ _ => Change.driveLaw) (fun _ _ h => h) h law
  obtain rfl | ⟨held, p, x, q, -, rfl⟩ := r
  · exact law
  · exact fun h => by cases h

theorem lineRanges_kept (h : step s = .next t) (law : s.LineRanges) : t.LineRanges := by
  refine law_kept (Law := State.LineRanges) (fun _ _ h => h) (fun s t r law => ?_) (fun _ _ h => h)
    (fun _ _ _ _ h => h) (fun _ _ _ => Change.lineRanges) (fun _ _ h => h) h law
  obtain rfl | ⟨held, p, x, q, -, rfl⟩ := r
  · exact law
  · exact ⟨Nat.zero_le _, Nat.zero_le _, Nat.zero_le _, Nat.zero_le _⟩

theorem closingLaw_kept (h : step s = .next t) (law : s.ClosingLaw) : t.ClosingLaw := by
  refine law_kept (Law := State.ClosingLaw) (fun _ _ h => h) (fun s t r law => ?_) (fun _ _ h => h)
    (fun _ _ _ _ h => h) (fun _ _ _ => Change.closingLaw) (fun _ _ h => h) h law
  obtain rfl | ⟨held, p, x, q, -, rfl⟩ := r
  · exact law
  · exact fun h => by cases h

/-- Settles O58: each of the three is kept by every change. -/
theorem lineLawsAreKept : Obligations.LineLawsAreKept :=
  fun _ _ h => ⟨driveLaw_kept h, lineRanges_kept h, closingLaw_kept h⟩

/-! ### The queues -/

theorem Change.noteLaw (h : Change mark s t) (law : s.NoteLaw) : t.NoteLaw := by
  cases h with
  | notes q cap => exact cap law
  | restarts => exact Nat.zero_le _
  | becomesMember | joins | goesOffline | leaves | lapses | faults => exact law
  | _ => simpa [State.NoteLaw] using law

theorem noteLaw_kept (h : step s = .next t) (law : s.NoteLaw) : t.NoteLaw := by
  refine law_kept (Law := State.NoteLaw) (fun _ _ h => h) (fun s t r law => ?_) (fun _ _ h => h)
    (fun _ _ _ _ h => h) (fun _ _ _ => Change.noteLaw) (fun _ _ h => h) h law
  obtain rfl | ⟨held, p, x, q, cap, rfl⟩ := r
  · exact law
  · exact cap

/-- A head change clears the new head's served flag, and that is all of the Demand Queue (R86). -/
theorem State.demands_headChange (s : State) : s.headChange.demands = clearServed s.demands := by
  simp [State.headChange]

theorem State.DemandLaw.of_eq (h : s.DemandLaw) (e : t.demands = s.demands) : t.DemandLaw := by
  rwa [State.DemandLaw, e]

theorem State.DemandLaw.of_nil (e : t.demands = []) : t.DemandLaw := by
  simp [State.DemandLaw, e]

theorem Change.demandLaw (h : Change mark s t) (law : s.DemandLaw) : t.DemandLaw := by
  cases h with
  | demands ds want keeps => exact keeps law
  | headChanges ds keeps =>
    have := State.DemandLaw.clearServed (keeps law)
    simpa [State.DemandLaw, State.demands_headChange] using this
  | restarts | leaves => exact State.DemandLaw.of_nil rfl
  | lapses | faults => exact law.clearServed.of_eq (by simp [State.lapsed, State.faulted, State.dropOut])
  | becomesMember | joins | goesOffline => exact law.of_eq (by simp [State.asMember, State.joining, State.left])
  | _ => exact law.of_eq (by simp)

theorem demandLaw_kept (h : step s = .next t) (law : s.DemandLaw) : t.DemandLaw := by
  refine law_kept (Law := State.DemandLaw) (fun _ _ h => h) (fun s t r law => ?_) (fun _ _ h => h)
    (fun _ _ _ _ h => h) (fun _ _ _ => Change.demandLaw) (fun _ _ h => h) h law
  obtain rfl | ⟨held, p, x, q, -, rfl⟩ := r
  · exact law
  · exact State.DemandLaw.of_nil rfl

/-- DONE records are queued one after another (R73, R84). -/
theorem State.noteDone_after (code : DoneCode) (ds : List Demand) (s : State) : s.noteDone code ds =
    s.withNotes (s.notes.after (ds.map fun d => ⟨s.timer.cycle, .done d.tag d.remaining code⟩)) := by
  unfold State.noteDone
  induction ds generalizing s with
  | nil => simp [State.withNotes]
  | cons d ds ih =>
    rw [List.foldl_cons, ih, State.note_after]
    simp only [State.notes_withNotes, NotificationQueue.after_append, State.timer_withNotes]
    rfl

/-- A CONTEST waits, joins the waiting one of its target, or is dropped (R145). -/
theorem Outbox.queueContest_eq (p : StationId) (x : SlotSet) (o : Outbox) : o.queueContest p x =
    if x = 0 then o else { o with
      contest := match o.contest with
        | none => some (p, x)
        | some (q, y) => if q = p then some (p, y ||| x) else some (q, y) } := by
  unfold Outbox.queueContest
  split
  · rfl
  · cases h : o.contest with
    | none => rfl
    | some c =>
      obtain ⟨q, y⟩ := c
      dsimp only
      split
      · rfl
      · rw [← h]

/-- A RELEASE waits or joins the waiting one (R145). -/
theorem Outbox.queueRelease_eq (x : SlotSet) (o : Outbox) : o.queueRelease x =
    if x = 0 then o else { o with release := some (o.release.getD 0 ||| x) } := by
  split
  · next h => rw [h]; rfl
  · next h =>
    obtain ⟨frame, joined⟩ := o.queueRelease_spec x
    rw [frame, joined h]

theorem State.attn_iff (s : State) : s.attn = true ↔ s.notes.records ≠ [] := by
  simp [State.attn]

/-- Settles O56: what queueing does, by the equations of `Outbox` and of the records; the laws by `Change`. -/
theorem queueLawsAreKept : Obligations.QueueLawsAreKept := by
  refine ⟨fun b s => ⟨?_, s.attn_iff⟩, State.noteDone_after, fun o c p x =>
    ⟨o.queueMark_spec c, o.queueRelease_eq x, o.queueContest_eq p x⟩,
    fun _ _ h => ⟨demandLaw_kept h, noteLaw_kept h⟩⟩
  unfold State.note Config.noteCapacity
  split <;> rfl

end Sys2Proof.Machine
end

section
/-!
PROOF. The laws of the Slot Map, the Peer Table and the Holding List, and of what a station holds in each station
state: each kept by every change.
-/

namespace Sys2Proof.Machine

variable {mark : Option MarkFields} {s t : State}

/-! ### Who is listed live -/

theorem listsLive_filter (f : HolderRecord → Bool) (e : SlotEntry) (p : StationId)
    (h : ∀ r, r.station = p → r.orphan = none → f r = true) : listsLive (e.filter f) p = listsLive e p := by
  rw [Bool.eq_iff_iff, listsLive_iff, listsLive_iff]
  constructor
  · rintro ⟨r, hr, hp, ho⟩
    exact ⟨r, (List.mem_filter.1 hr).1, hp, ho⟩
  · rintro ⟨r, hr, hp, ho⟩
    exact ⟨r, List.mem_filter.2 ⟨hr, h r hp ho⟩, hp, ho⟩

theorem listsLive_removeLive_self (p : StationId) (e : SlotEntry) : listsLive (removeLive p e) p = false := by
  rw [← Bool.not_eq_true, listsLive_iff]
  rintro ⟨r, hr, hp, ho⟩
  simp [removeLive, hp, ho, HolderRecord.isLive] at hr

theorem listsLive_removeLive_other {p q : StationId} (e : SlotEntry) (h : p ≠ q) :
    listsLive (removeLive p e) q = listsLive e q :=
  listsLive_filter _ e q fun r hr _ => by simp [hr, h.symm]

theorem listsLive_removeAll_self (p : StationId) (e : SlotEntry) : listsLive (removeAll p e) p = false := by
  rw [← Bool.not_eq_true, listsLive_iff]
  rintro ⟨r, hr, hp, ho⟩
  simp [removeAll, hp] at hr

theorem listsLive_removeAll_other {p q : StationId} (e : SlotEntry) (h : p ≠ q) :
    listsLive (removeAll p e) q = listsLive e q :=
  listsLive_filter _ e q fun r hr _ => by simp [hr, h.symm]

theorem listsLive_append (p q : StationId) (u : Nat) (e : SlotEntry) :
    listsLive (append p u e) q = (listsLive e q || p == q) := by
  simp [listsLive, append, HolderRecord.isLive]

theorem listsLive_orphanRecords_other {p q : StationId} (c : CycleNumber) (n : Nat) (e : SlotEntry) (h : p ≠ q) :
    listsLive (orphanRecords p c n e) q = listsLive e q := by
  unfold listsLive orphanRecords
  rw [List.any_map]
  refine List.any_congr rfl fun r => ?_
  simp only [Function.comp, HolderRecord.isLive]
  by_cases hr : r.station = p <;> grind

theorem countRecord_isLive (c : CycleNumber) (r : HolderRecord) : (countRecord c r).isLive = r.isLive := by
  unfold countRecord HolderRecord.isLive
  cases h : r.orphan with
  | none => simp [h]
  | some o =>
    dsimp only
    split <;> simp [h]

theorem ranOut_of_live {r : HolderRecord} (h : r.orphan = none) : r.ranOut = false := by
  simp [HolderRecord.ranOut, h]

theorem listsLive_countOrphans (c : CycleNumber) (e : SlotEntry) (q : StationId) :
    listsLive (countOrphans c e) q = listsLive e q := by
  rw [countOrphans, listsLive_filter _ _ _ fun r _ ho => by simp [ranOut_of_live ho]]
  unfold listsLive
  rw [List.any_map]
  refine List.any_congr rfl fun r => ?_
  simp only [Function.comp, countRecord_station, countRecord_isLive]

theorem listsLive_reconcileSlot_other {p q : StationId} (b u : Nat) (back announced : Bool) (e : SlotEntry)
    (h : p ≠ q) : listsLive (reconcileSlot b p u back announced e) q = listsLive e q := by
  have kept : listsLive (reconcileRemovals p back announced e) q = listsLive e q := by
    rw [reconcileRemovals_eq]
    exact listsLive_filter _ _ _ fun r hr _ => by simp [hr, h.symm]
  unfold reconcileSlot
  dsimp only
  split
  · rw [listsLive_append, kept, beq_false_of_ne h, Bool.or_false]
  · exact kept

theorem listsLive_admission_other {p q : StationId} (b u : Nat) (x : SlotSet) (m : SlotMap) (k : SlotIndex)
    (h : p ≠ q) : listsLive ((m.admission b p u x).get k) q = listsLive (m.get k) q := by
  rw [SlotMap.get_admission]
  split
  · rw [listsLive_append, beq_false_of_ne h, Bool.or_false]
  · rfl

/-- CLAIM admission lists the claimer in the granted slots, and where it was (R7, R8). -/
theorem listsLive_admission_self (p : StationId) (b u : Nat) (x : SlotSet) (m : SlotMap) (k : SlotIndex) :
    listsLive ((m.admission b p u x).get k) p = (listsLive (m.get k) p || decide (k ∈ m.granted b p u x)) := by
  rw [SlotMap.get_admission, Bool.eq_iff_iff]
  simp only [SlotMap.mem_granted]
  split
  · next h => simp_all [listsLive_append]
  · next h => simp_all

/-- A granted slot did not list the claimer (Table 1-3). -/
theorem SlotMap.not_listsLive_of_granted {b u : Nat} {p : StationId} {x : SlotSet} {m : SlotMap} {k : SlotIndex}
    (h : k ∈ m.granted b p u x) : listsLive (m.get k) p = false := by
  rw [SlotMap.mem_granted, fits_iff, ← lists_iff] at h
  by_contra hl
  exact h.2.1 (lists_of_listsLive (by simpa using hl))

theorem SlotMap.granted_nodup (b u : Nat) (p : StationId) (x : SlotSet) (m : SlotMap) :
    (m.granted b p u x).Nodup :=
  allSlots_nodup.filter _

/-! ### The law of the Holding List (R88) -/

theorem State.HoldingLaw.of_eq (h : s.HoldingLaw) (slots : t.holdings.map Holding.slot = s.holdings.map Holding.slot)
    (live : ∀ k, listsLive (t.map.get k) t.id = listsLive (s.map.get k) s.id)
    (station : t.member.station ≠ .member → s.member.station ≠ .member) : t.HoldingLaw := by
  obtain ⟨nodup, listed, rest⟩ := h
  refine ⟨slots ▸ nodup, fun k => ?_, fun hm => ?_⟩
  · rw [slots, live, listed]
  · rw [rest (station hm), List.map_nil, List.map_eq_nil_iff] at slots
    exact slots

/-- A station that holds nothing and is listed nowhere. -/
theorem State.HoldingLaw.of_none (holdings : t.holdings = []) (live : ∀ k, listsLive (t.map.get k) t.id = false) :
    t.HoldingLaw := by
  refine ⟨by simp [holdings], fun k => ?_, fun _ => holdings⟩
  simp [holdings, live k]

theorem State.HoldingLaw.of_cleared (holdings : t.holdings = []) (map : t.map = SlotMap.cleared) : t.HoldingLaw :=
  State.HoldingLaw.of_none holdings fun k => by rw [map, SlotMap.get_cleared]; rfl

/-- Entries and own live records go from the same slots. -/
theorem State.HoldingLaw.drop (h : s.HoldingLaw) (x : SlotSet) (id : t.id = s.id)
    (holdings : t.holdings = s.holdings.filter fun h => !slotIn x h.slot)
    (live : ∀ k, listsLive (t.map.get k) s.id = (listsLive (s.map.get k) s.id && !slotIn x k))
    (station : t.member.station = s.member.station) : t.HoldingLaw := by
  obtain ⟨nodup, listed, rest⟩ := h
  refine ⟨?_, fun k => ?_, fun hm => ?_⟩
  · rw [holdings]
    exact nodup.sublist (List.filter_sublist.map _)
  · rw [id, live, Bool.and_eq_true, ← listed, holdings]
    simp only [List.mem_map, List.mem_filter]
    constructor
    · rintro ⟨h, ⟨hm, hx⟩, rfl⟩
      exact ⟨⟨h, hm, rfl⟩, hx⟩
    · rintro ⟨⟨h, hm, rfl⟩, hx⟩
      exact ⟨h, ⟨hm, hx⟩, rfl⟩
  · rw [holdings, rest (station ▸ hm)]
    rfl

/-- Granted slots join the list (R100). -/
theorem State.HoldingLaw.grant (h : s.HoldingLaw) (st : HoldState) (u : Nat) (x : SlotSet)
    (member : s.member.station = .member) :
    ((s.withMap (s.map.admission s.beff s.id u x)).addHoldings st (s.map.granted s.beff s.id u x)).HoldingLaw := by
  obtain ⟨nodup, listed, -⟩ := h
  have slots : ((s.map.granted s.beff s.id u x).map fun k => (⟨k, st⟩ : Holding)).map Holding.slot =
      s.map.granted s.beff s.id u x := by simp [Function.comp_def]
  refine ⟨?_, fun k => ?_, fun hm => absurd member hm⟩
  · rw [State.addHoldings_eq, State.holdings_withHoldings, List.map_append, slots]
    refine nodup.append (SlotMap.granted_nodup _ _ _ _ _) fun k hk hg => ?_
    rw [listed, SlotMap.not_listsLive_of_granted hg] at hk
    cases hk
  · have := listsLive_admission_self s.id s.beff u x s.map k
    rw [State.addHoldings_eq, State.holdings_withHoldings, List.map_append, slots, List.mem_append,
      State.holdings_withMap, listed, State.map_withHoldings, State.map_withMap, State.id_withHoldings,
      State.id_withMap, this, Bool.or_eq_true, decide_eq_true_iff]

theorem State.slots_releaseHoldings (p : SlotIndex → Bool) (s : State) :
    (s.releaseHoldings p).holdings.map Holding.slot = s.holdings.map Holding.slot := by
  obtain ⟨o, h, -⟩ := s.releaseHoldings_spec p
  rw [h]
  simp

theorem State.slots_headChange (s : State) :
    s.headChange.holdings.map Holding.slot = s.holdings.map Holding.slot := by
  simp [State.headChange, State.releaseSurplus, State.slots_releaseHoldings]

theorem State.holdings_dropHoldings (p : SlotIndex → Bool) (s : State) :
    (s.dropHoldings p).holdings = s.holdings.filter fun h => !p h.slot := by
  obtain ⟨o, h, -⟩ := s.dropHoldings_spec p
  rw [h]
  simp

/-- A quorum loss leaves no holding and no own live record, whatever it finds (R77). -/
theorem State.HoldingLaw.settled (n : Nat) (h : s.HoldingLaw) : (s.settled n).HoldingLaw := by
  rcases s.settled_cases n with e | ⟨-, e⟩ <;> rw [e]
  · exact h
  · rw [State.quorumDropped_eq]
    exact .of_none rfl fun k => by simpa using listsLive_removeLive_self _ _

theorem Change.holdingLaw (h : Change mark s t) (law : s.HoldingLaw) : t.HoldingLaw := by
  cases h with
  | headChanges ds => exact law.of_eq (by simp [State.slots_headChange]) (by simp) (by simp)
  | releases p => exact law.of_eq (State.slots_releaseHoldings p s) (by simp) (by simp)
  | promotes =>
    refine law.of_eq ?_ (by simp) (by simp)
    simp only [State.holdings_withHoldings, List.map_map]
    refine List.map_congr_left fun h _ => ?_
    simp only [Function.comp, Holding.promote]
    split <;> rfl
  | contestOther p x other =>
    refine law.of_eq rfl (fun k => ?_) fun h => h
    simp only [State.map_withMap, SlotMap.get_contest]
    split
    · exact listsLive_removeAll_other _ other
    · rfl
  | contestOwn x =>
    refine law.drop x (by simp) (State.holdings_dropHoldings _ _) (fun k => ?_) (by simp)
    have : listsLive (if slotIn x k then removeAll s.id (s.map.get k) else s.map.get k) s.id =
        (listsLive (s.map.get k) s.id && !slotIn x k) := by
      cases slotIn x k
      · simp
      · simp [listsLive_removeAll_self]
    simpa using this
  | releaseOther p x other =>
    refine law.of_eq rfl (fun k => ?_) fun h => h
    simp only [State.map_withMap, SlotMap.get_release]
    split
    · exact listsLive_removeLive_other _ other
    · rfl
  | releaseOwn x =>
    refine law.drop x (by simp) (State.holdings_dropHoldings _ _) (fun k => ?_) (by simp)
    have : listsLive (if slotIn x k then removeLive s.id (s.map.get k) else s.map.get k) s.id =
        (listsLive (s.map.get k) s.id && !slotIn x k) := by
      cases slotIn x k
      · simp
      · simp [listsLive_removeLive_self]
    simpa using this
  | claimOther p u x other => exact law.of_eq rfl (fun k => listsLive_admission_other _ _ _ _ _ other) fun h => h
  | grantBack u x =>
    refine law.of_eq rfl (fun k => ?_) fun h => h
    simp only [State.map_withMap, State.id_withMap, SlotMap.get_release, slotIn_slotSetOf]
    by_cases hg : k ∈ s.map.granted s.beff s.id u x
    · simp [hg, listsLive_removeLive_self, SlotMap.not_listsLive_of_granted hg]
    · simp only [hg, decide_false, Bool.false_eq_true, if_false, listsLive_admission_self, Bool.or_false]
  | grantReleasing u x member => exact law.grant .releasing u x member
  | grantTaken u x quorate =>
    exact (law.grant .pending u x (State.member_of_quorate quorate)).of_eq
      (State.slots_releaseHoldings _ _) (by simp) (by simp)
  | peerExpires p other =>
    refine .settled _ (law.of_eq rfl (fun k => ?_) fun h => h)
    simpa using listsLive_orphanRecords_other _ _ _ other
  | peerOrphaned p other =>
    refine law.of_eq rfl (fun k => ?_) fun h => h
    simpa using listsLive_orphanRecords_other _ _ _ other
  | peerLeaves p other =>
    refine .settled _ (law.of_eq rfl (fun k => ?_) fun h => h)
    simpa using listsLive_removeAll_other _ other
  | peerPresents p f other =>
    refine .settled _ (law.of_eq rfl (fun k => ?_) fun h => h)
    simpa using listsLive_reconcileSlot_other _ _ _ _ _ other
  | countdown c => exact law.of_eq rfl (fun k => by simp [listsLive_countOrphans]) fun h => h
  | orphanSpent k p =>
    refine law.of_eq rfl (fun j => ?_) fun h => h
    simp only [State.map_withMap, State.id_withMap, Table.get_set]
    split
    · next h => rw [h, listsLive_filter _ _ _ fun r _ ho => by simp [ranOut_of_live ho]]
    · rfl
  | restarts => exact .of_cleared rfl rfl
  | joins ready =>
    refine law.of_eq rfl (fun k => rfl) fun _ => ?_
    rcases ready with ⟨h, -⟩ | h <;> simp [h]
  | becomesMember tm joining => exact law.of_eq rfl (fun k => rfl) fun h => absurd rfl h
  | leaves => exact .of_none rfl fun k => by simpa [State.leaving, State.queueLeave] using listsLive_removeLive_self _ _
  | goesOffline leaving =>
    refine .of_cleared ?_ (by simp [State.left])
    simpa [State.left] using law.2.2 (by simp [leaving])
  | lapses | faults => exact .of_cleared (by simp [State.lapsed, State.faulted, State.dropOut]) (by simp [State.lapsed, State.faulted, State.dropOut])
  | counts x station => exact law.of_eq rfl (fun k => rfl) fun h => station ▸ h
  | _ => exact law.of_eq (by simp) (by simp) (by simp)

theorem holdingLaw_kept (h : step s = .next t) (law : s.HoldingLaw) : t.HoldingLaw := by
  refine law_kept (Law := State.HoldingLaw) (fun _ _ h => h) (fun s t r law => ?_) (fun _ _ h => h)
    (fun _ _ _ _ h => h) (fun _ _ _ => Change.holdingLaw) (fun _ _ h => h) h law
  obtain rfl | ⟨held, p, x, q, -, rfl⟩ := r
  · exact law
  · exact .of_cleared rfl rfl

/-- Settles O54. -/
theorem holdingLawIsKept : Obligations.HoldingLawIsKept :=
  fun _ _ law h => holdingLaw_kept h law

/-! ### The law of holder lists (R2) -/

/-- No station is listed twice in a slot. -/
abbrev State.ListedOnce (s : State) : Prop := ∀ k : SlotIndex, ((s.map.get k).map HolderRecord.station).Nodup

/-- Where no station is listed twice, the 32 IDs bound the list (R2). -/
theorem State.holderListLaw_iff (s : State) : s.HolderListLaw ↔ s.ListedOnce := by
  refine forall_congr' fun k => ⟨And.left, fun h => ⟨h, ?_⟩⟩
  have := h.length_le_card
  simpa using this

theorem nodup_removed {e : SlotEntry} (f : HolderRecord → Bool) (h : (e.map HolderRecord.station).Nodup) :
    ((e.filter f).map HolderRecord.station).Nodup :=
  h.sublist (List.filter_sublist.map _)

theorem nodup_append_if_fits {e : SlotEntry} {b u : Nat} {p : StationId} (c : Bool)
    (h : (e.map HolderRecord.station).Nodup) :
    ((if c && fits b p u e then append p u e else e).map HolderRecord.station).Nodup := by
  split
  · next hf =>
    rw [Bool.and_eq_true, fits_iff] at hf
    rw [append, List.map_append, List.nodup_append]
    refine ⟨h, List.nodup_singleton _, fun q hq r hr e => hf.2.1 ?_⟩
    rw [List.map_singleton, List.mem_singleton] at hr
    rw [e, hr] at hq
    exact hq
  · exact h

/-- A change of the map that keeps every slot's law keeps the law of the map. -/
theorem State.ListedOnce.change (h : s.ListedOnce) (f : SlotIndex → SlotEntry → SlotEntry)
    (hf : ∀ k e, (e.map HolderRecord.station).Nodup → ((f k e).map HolderRecord.station).Nodup)
    (map : ∀ k, t.map.get k = f k (s.map.get k)) : t.ListedOnce :=
  fun k => map k ▸ hf k _ (h k)

theorem State.ListedOnce.of_eq (h : s.ListedOnce) (map : t.map = s.map) : t.ListedOnce :=
  fun k => map ▸ h k

theorem State.ListedOnce.of_cleared (map : t.map = SlotMap.cleared) : t.ListedOnce :=
  fun k => by simp [map]

theorem State.ListedOnce.settled (n : Nat) (h : s.ListedOnce) : (s.settled n).ListedOnce := by
  rcases s.settled_cases n with e | ⟨-, e⟩ <;> rw [e]
  · exact h
  · rw [State.quorumDropped_eq]
    exact h.change (fun _ => removeLive s.id) (fun _ _ => nodup_removed _) (by simp)

theorem Change.listedOnce (h : Change mark s t) (law : s.ListedOnce) : t.ListedOnce := by
  cases h with
  | contestOther p x =>
    refine law.change (fun k e => if slotIn x k then removeAll p e else e) (fun k e he => ?_) (by simp)
    split
    · exact nodup_removed _ he
    · exact he
  | contestOwn x =>
    refine law.change (fun k e => if slotIn x k then removeAll s.id e else e) (fun k e he => ?_) (by simp)
    split
    · exact nodup_removed _ he
    · exact he
  | releaseOther p x =>
    refine law.change (fun k e => if slotIn x k then removeLive p e else e) (fun k e he => ?_) (by simp)
    split
    · exact nodup_removed _ he
    · exact he
  | releaseOwn x =>
    refine law.change (fun k e => if slotIn x k then removeLive s.id e else e) (fun k e he => ?_) (by simp)
    split
    · exact nodup_removed _ he
    · exact he
  | claimOther p u x =>
    exact law.change _ (fun k _ => nodup_append_if_fits (slotIn x k)) fun k => SlotMap.get_admission _ _ _ _ _ _
  | grantBack u x =>
    have granted : (s.withMap (s.map.admission s.beff s.id u x)).ListedOnce :=
      law.change _ (fun k _ => nodup_append_if_fits (slotIn x k)) fun k => SlotMap.get_admission _ _ _ _ _ _
    refine granted.change (fun k e => if slotIn (slotSetOf (s.map.granted s.beff s.id u x)) k then
      removeLive s.id e else e) (fun k e he => ?_) fun k => SlotMap.get_release _ _ _ _
    split
    · exact nodup_removed _ he
    · exact he
  | grantReleasing u x =>
    exact law.change _ (fun k _ => nodup_append_if_fits (slotIn x k)) fun k => SlotMap.get_admission _ _ _ _ _ _
  | grantTaken u x =>
    have granted : (s.withMap (s.map.admission s.beff s.id u x)).ListedOnce :=
      law.change _ (fun k _ => nodup_append_if_fits (slotIn x k)) fun k => SlotMap.get_admission _ _ _ _ _ _
    exact granted.of_eq (State.releaseSurplus_frame _ _).2.2.2.2.2.2.1
  | peerExpires p =>
    refine .settled _ (law.change (fun _ => orphanRecords p s.timer.cycle s.cfg.expiry) (fun k e he => ?_) (by simp))
    rwa [stations_orphanRecords]
  | peerOrphaned p =>
    refine law.change (fun _ => orphanRecords p s.timer.cycle s.cfg.expiry) (fun k e he => ?_) (by simp)
    rwa [stations_orphanRecords]
  | peerLeaves p => exact .settled _ (law.change (fun _ => removeAll p) (fun _ _ => nodup_removed _) (by simp))
  | peerPresents p f =>
    refine .settled _ (law.change (fun k => reconcileSlot s.cfg.budget p f.units (!(s.peers.get p).live)
      (slotIn f.holdings k)) (fun k e he => ?_) (by simp))
    unfold reconcileSlot
    rw [reconcileRemovals_eq]
    exact nodup_append_if_fits _ (nodup_removed _ he)
  | countdown c =>
    exact law.change (fun _ => countOrphans c) (fun k e he => he.sublist (stations_countOrphans_sublist c e)) (by simp)
  | orphanSpent k p =>
    refine law.change (fun j e => if j = k then e.filter fun r => !(r.station == p && r.ranOut) else e)
      (fun j e he => ?_) fun j => ?_
    · split
      · exact nodup_removed _ he
      · exact he
    · rw [State.map_withMap, Table.get_set]
      split
      · next h => rw [h]
      · rfl
  | leaves => exact law.change (fun _ => removeLive s.id) (fun _ _ => nodup_removed _) (by simp [State.leaving, State.queueLeave])
  | restarts => exact .of_cleared rfl
  | goesOffline | lapses | faults => exact .of_cleared (by simp [State.left, State.lapsed, State.faulted, State.dropOut])
  | becomesMember | joins => exact law.of_eq (by simp [State.asMember, State.joining])
  | _ => exact law.of_eq (by simp)

theorem holderListLaw_kept (h : step s = .next t) (law : s.HolderListLaw) : t.HolderListLaw := by
  rw [State.holderListLaw_iff] at law ⊢
  refine law_kept (Law := State.ListedOnce) (fun _ _ h => h) (fun s t r law => ?_) (fun _ _ h => h)
    (fun _ _ _ _ h => h) (fun _ _ _ => Change.listedOnce) (fun _ _ h => h) h law
  obtain rfl | ⟨held, p, x, q, -, rfl⟩ := r
  · exact law
  · exact .of_cleared rfl

end Sys2Proof.Machine
end

section
/-!
PROOF. What a station holds at rest, the law of the map's budget, of orphan records, of standing and of the served
flag.
-/

namespace Sys2Proof.Machine

variable {mark : Option MarkFields} {s t : State}

/-! ### At rest: an empty map, Peer Table and Outbox (R17, R39, R147) -/

theorem State.drives_congr (h : t.member.station = s.member.station) : t.drives = s.drives := by
  unfold State.drives
  rw [h]

/-- An OFFLINE, LAPSED or FAULTED station holds no map and no Peer Table. -/
abbrev State.TablesRest (s : State) : Prop := s.drives = false → s.map = SlotMap.cleared ∧ s.peers = PeerTable.cleared

theorem State.TablesRest.of_drives (h : t.drives = true) : t.TablesRest := fun rest => by simp [h] at rest

theorem State.TablesRest.of_eq (h : s.TablesRest) (station : t.member.station = s.member.station)
    (map : t.map = s.map) (peers : t.peers = s.peers) : t.TablesRest := by
  unfold State.TablesRest
  rwa [map, peers, State.drives_congr station]

theorem State.TablesRest.of_onLine (on : s.onLine = true) (station : t.member.station = s.member.station) :
    t.TablesRest :=
  .of_drives ((State.drives_congr station).trans (State.drives_of_onLine on))

theorem Change.tablesRest (h : Change mark s t) (law : s.TablesRest) : t.TablesRest := by
  cases h with
  | counts x station => exact law.of_eq station rfl rfl
  | pass n => exact law.of_eq (State.station_pass n s) rfl rfl
  | contestOther _ _ _ on | contestOwn _ on | releaseOther _ _ _ on | releaseOwn _ on | peerPriority _ _ on
  | peerExpires _ _ on | peerOrphaned _ _ _ on | peerLeaves _ _ on | peerPresents _ _ _ on | countdown _ on
  | orphanSpent _ _ on => exact .of_onLine on (by simp)
  | claimOther _ _ _ _ member | grantBack _ _ member | grantReleasing _ _ member =>
    exact .of_onLine (State.onLine_of_member member) (by simp)
  | grantTaken _ _ quorate => exact .of_onLine (State.onLine_of_member (State.member_of_quorate quorate)) (by simp)
  | joins | becomesMember | leaves => exact .of_drives rfl
  | restarts | goesOffline | lapses | faults =>
    exact fun _ => ⟨by simp [State.left, State.lapsed, State.faulted, State.dropOut, State.cleared],
      by simp [State.left, State.lapsed, State.faulted, State.dropOut, State.cleared]⟩
  | _ => exact law.of_eq (by simp) (by simp) (by simp)

theorem State.drives_raiseSilence (on : s.onLine = true) : s.raiseSilence.drives = true :=
  (State.drives_congr rfl).trans (State.drives_of_onLine on)

theorem tablesRest_kept (h : step s = .next t) (law : s.TablesRest) : t.TablesRest := by
  refine law_kept (Law := State.TablesRest) (fun _ _ h => h) (fun s t r law => ?_) (fun _ _ h => h)
    (fun _ _ _ _ h => h) (fun _ _ _ => Change.tablesRest)
    (fun _ on _ => .of_drives (State.drives_raiseSilence on)) h law
  obtain rfl | ⟨held, p, x, q, -, rfl⟩ := r
  · exact law
  · exact fun _ => ⟨rfl, rfl⟩

/-- An OFFLINE, LAPSED or FAULTED station has no notice. -/
abbrev State.OutboxRest (s : State) : Prop := s.drives = false → s.outbox = Outbox.empty

theorem State.OutboxRest.of_drives (h : t.drives = true) : t.OutboxRest := fun rest => by simp [h] at rest

theorem State.OutboxRest.of_eq (h : s.OutboxRest) (station : t.member.station = s.member.station)
    (outbox : t.outbox = s.outbox) : t.OutboxRest := by
  unfold State.OutboxRest
  rwa [outbox, State.drives_congr station]

theorem State.OutboxRest.of_onLine (on : s.onLine = true) (station : t.member.station = s.member.station) :
    t.OutboxRest :=
  .of_drives ((State.drives_congr station).trans (State.drives_of_onLine on))

/-- A change that makes nothing of an empty Outbox at a station that does not drive. -/
theorem State.OutboxRest.change (h : s.OutboxRest) (station : t.member.station = s.member.station)
    (outbox : s.drives = false → s.outbox = .empty → t.outbox = .empty) : t.OutboxRest := by
  intro rest
  rw [State.drives_congr station] at rest
  exact outbox rest (h rest)

theorem State.fitClaim_of_none (h : s.outbox.claim = none) : s.fitClaim = s := by
  simp [State.fitClaim, h]

/-- Outside MEMBER a head change queues nothing, because nothing is held (R88). -/
theorem State.outbox_headChange_of_none (holdings : s.holdings = []) (claim : s.outbox.claim = none) :
    s.headChange.outbox = s.outbox := by
  have none_held : s.heldSlots = [] := by simp [State.heldSlots_eq, holdings]
  have none_named : slotSetOf [] = 0 := rfl
  have surplus (k : Nat) : (s.releaseSurplus k).outbox = s.outbox := by
    obtain ⟨o, h, -⟩ := s.releaseHoldings_spec fun i => (s.heldSlots.drop k).contains i
    rw [State.releaseSurplus, h]
    simp [Outbox.queueRelease_eq, State.heldWhere, none_held, none_named]
  rw [State.headChange, State.outbox_withDemands, State.fitClaim_of_none ((congrArg _ (surplus _)).trans claim),
    surplus]

theorem Change.outboxRest (h : Change mark s t) (held : s.HoldingLaw) (law : s.OutboxRest) : t.OutboxRest := by
  cases h with
  | counts x station => exact law.of_eq station rfl
  | pass n => exact law.of_eq (State.station_pass n s) rfl
  | contestOther _ _ _ on | contestOwn _ on | releaseOther _ _ _ on | releaseOwn _ on | peerPriority _ _ on
  | peerExpires _ _ on | peerOrphaned _ _ _ on | peerLeaves _ _ on | peerPresents _ _ _ on | countdown _ on
  | orphanSpent _ _ on => exact .of_onLine on (by simp)
  | claimOther _ _ _ _ member | grantBack _ _ member | grantReleasing _ _ member | releases _ member =>
    exact .of_onLine (State.onLine_of_member member) (by simp)
  | grantTaken _ _ quorate | plans _ quorate =>
    exact .of_onLine (State.onLine_of_member (State.member_of_quorate quorate)) (by simp)
  | flies _ _ drives => exact .of_drives ((State.drives_congr rfl).trans drives)
  | joins | becomesMember | leaves => exact .of_drives rfl
  | restarts | goesOffline | lapses | faults =>
    exact fun _ => by simp [State.left, State.lapsed, State.faulted, State.dropOut, State.cleared]
  | withdrawClaim => exact law.change (by simp) fun _ e => by simp [State.withdrawClaim_spec, e]; rfl
  | waiting o rest => exact law.change (by simp) fun d e => (rest.resolve_left (by simp [d])) e
  | flightEnds | claimEnds => exact law.change (by simp) fun _ e => by simp [e]; rfl
  | headChanges ds =>
    refine law.change (by simp) fun d e => ?_
    rw [State.outbox_headChange_of_none]
    · exact e
    · refine held.2.2 fun member => ?_
      simp [State.drives, member] at d
    · exact congrArg Outbox.claim e
  | _ => exact law.of_eq (by simp) (by simp)

/-- The law of the Holding List carries the law of rest with it. -/
theorem outboxRest_kept (h : step s = .next t) (held : s.HoldingLaw) (law : s.OutboxRest) : t.OutboxRest := by
  refine (law_kept (Law := fun s => s.HoldingLaw ∧ s.OutboxRest) (fun _ _ h => h) (fun s t r law => ?_)
    (fun _ _ h => h) (fun _ _ _ _ h => h) (fun _ _ _ c law => ⟨c.holdingLaw law.1, c.outboxRest law.1 law.2⟩)
    (fun _ on law => ⟨law.1, .of_drives (State.drives_raiseSilence on)⟩) h ⟨held, law⟩).2
  obtain rfl | ⟨held, p, x, q, -, rfl⟩ := r
  · exact law
  · exact ⟨.of_cleared rfl rfl, fun _ => rfl⟩

theorem restLaw_kept (h : step s = .next t) (held : s.HoldingLaw) (law : s.RestLaw) : t.RestLaw := fun rest =>
  have tables := tablesRest_kept h (fun d => ⟨(law d).1, (law d).2.1⟩) rest
  ⟨tables.1, tables.2, outboxRest_kept h held (fun d => (law d).2.2) rest⟩

/-! ### The limits that a valid setup sets -/

theorem State.SetupLaw.valid_cfg (law : s.SetupLaw) (h : s.member.station ≠ .offline) : s.cfg.valid = true := by
  obtain ⟨valid, held⟩ := law
  unfold State.cfg
  cases hs : s.setup with
  | none => simpa [hs] using held h
  | some r => simpa [hs] using valid

theorem Setup.valid_iff (r : Setup) : r.valid = true ↔
    (8 ≤ r.slotLength ∧ r.slotLength ≤ 128) ∧ (1 ≤ r.budget ∧ r.budget ≤ 255) ∧ r.deratedBudget ≤ r.budget ∧
    (1 ≤ r.period ∧ r.period ≤ 4) ∧ (2 * r.period + 1 ≤ r.expiry ∧ r.expiry ≤ 15) ∧
    (1 ≤ r.quorum ∧ r.quorum ≤ 32) ∧ (1 ≤ r.derateHold ∧ r.derateHold ≤ 15) ∧
    (1 ≤ r.load ∧ r.load ≤ min r.budget 63) ∧ (1 ≤ r.guard ∧ r.guard ≤ r.slotLength / 4) ∧
    (1 ≤ r.sagFilter ∧ r.sagFilter ≤ 15) := by
  simp only [Setup.valid, Bool.and_eq_true, decide_eq_true_eq, and_assoc]

theorem Setup.three_le_expiry {r : Setup} (h : r.valid = true) : 3 ≤ r.expiry := by
  rw [Setup.valid_iff] at h
  omega

/-- Beff is B at most (R6). -/
theorem State.beff_le (law : s.SetupLaw) : s.beff ≤ s.cfg.budget := by
  unfold State.beff
  split
  · unfold State.cfg
    cases hs : s.setup with
    | none => exact Nat.le_refl _
    | some r => exact ((Setup.valid_iff r).1 (by simpa [hs] using law.1)).2.2.1
  · exact Nat.le_refl _

theorem State.cfg_congr (h : t.setup = s.setup) : t.cfg = s.cfg := by
  unfold State.cfg
  rw [h]

/-! ### The law of the map's budget (R1) -/

theorem committed_append_if_fits {b c u : Nat} {p : StationId} {e : SlotEntry} (g : Bool) (hb : b ≤ c)
    (h : committed e ≤ c) : committed (if g && fits b p u e then append p u e else e) ≤ c := by
  split
  · next hf =>
    rw [Bool.and_eq_true, fits_iff] at hf
    rw [committed_append]
    exact hf.2.2.trans hb
  · exact h

theorem committed_removed_le {f : HolderRecord → Bool} {e : SlotEntry} {c : Nat} (h : committed e ≤ c) :
    committed (e.filter f) ≤ c :=
  (committed_filter_le f e).trans h

/-- A change of the map that keeps every slot's budget. -/
theorem State.BudgetLaw.change (h : s.BudgetLaw) (f : SlotIndex → SlotEntry → SlotEntry)
    (hf : ∀ k e, committed e ≤ s.cfg.budget → committed (f k e) ≤ s.cfg.budget) (cfg : t.setup = s.setup)
    (map : ∀ k, t.map.get k = f k (s.map.get k)) : t.BudgetLaw :=
  fun k => map k ▸ State.cfg_congr cfg ▸ hf k _ (h k)

theorem State.BudgetLaw.of_eq (h : s.BudgetLaw) (cfg : t.setup = s.setup) (map : t.map = s.map) : t.BudgetLaw :=
  fun k => map ▸ State.cfg_congr cfg ▸ h k

theorem State.BudgetLaw.of_cleared (map : t.map = SlotMap.cleared) : t.BudgetLaw := fun k => by simp [map]

theorem State.BudgetLaw.settled (n : Nat) (h : s.BudgetLaw) : (s.settled n).BudgetLaw := by
  rcases s.settled_cases n with e | ⟨-, e⟩ <;> rw [e]
  · exact h
  · rw [State.quorumDropped_eq]
    exact h.change (fun _ => removeLive s.id) (fun _ _ => committed_removed_le) (by simp) (by simp)

theorem committed_ite_le {c : Nat} {e f : SlotEntry} (g : Prop) [Decidable g] (he : committed e ≤ c)
    (hf : committed f ≤ c) : committed (if g then e else f) ≤ c := by
  split
  · exact he
  · exact hf

theorem Change.budgetLaw (h : Change mark s t) (setup : s.SetupLaw) (law : s.BudgetLaw) : t.BudgetLaw := by
  have admits (p : StationId) (u : Nat) (x : SlotSet) : (s.withMap (s.map.admission s.beff p u x)).BudgetLaw :=
    law.change _ (fun k _ => committed_append_if_fits (slotIn x k) (State.beff_le setup)) rfl
      fun k => SlotMap.get_admission _ _ _ _ _ _
  cases h with
  | contestOther p x =>
    exact law.change (fun k e => if slotIn x k then removeAll p e else e)
      (fun _ _ h => committed_ite_le _ (committed_removed_le h) h) (by simp) (by simp)
  | contestOwn x =>
    exact law.change (fun k e => if slotIn x k then removeAll s.id e else e)
      (fun _ _ h => committed_ite_le _ (committed_removed_le h) h) (by simp) (by simp)
  | releaseOther p x =>
    exact law.change (fun k e => if slotIn x k then removeLive p e else e)
      (fun _ _ h => committed_ite_le _ (committed_removed_le h) h) (by simp) (by simp)
  | releaseOwn x =>
    exact law.change (fun k e => if slotIn x k then removeLive s.id e else e)
      (fun _ _ h => committed_ite_le _ (committed_removed_le h) h) (by simp) (by simp)
  | claimOther p u x => exact admits p u x
  | grantBack u x =>
    exact (admits s.id u x).change (fun k e => if slotIn (slotSetOf (s.map.granted s.beff s.id u x)) k then
      removeLive s.id e else e) (fun _ _ h => committed_ite_le _ (committed_removed_le h) h) rfl
      fun k => SlotMap.get_release _ _ _ _
  | grantReleasing u x => exact (admits s.id u x).of_eq rfl rfl
  | grantTaken u x => exact (admits s.id u x).of_eq (by simp) (by simp)
  | peerExpires p =>
    exact .settled _ (law.change (fun _ => orphanRecords p s.timer.cycle s.cfg.expiry)
      (fun _ _ h => (committed_orphanRecords _ _ _ _).trans_le h) (by simp) (by simp))
  | peerOrphaned p =>
    exact law.change (fun _ => orphanRecords p s.timer.cycle s.cfg.expiry)
      (fun _ _ h => (committed_orphanRecords _ _ _ _).trans_le h) (by simp) (by simp)
  | peerLeaves p =>
    exact .settled _ (law.change (fun _ => removeAll p) (fun _ _ => committed_removed_le) (by simp) (by simp))
  | peerPresents p f =>
    refine .settled _ (law.change (fun k => reconcileSlot s.cfg.budget p f.units (!(s.peers.get p).live)
      (slotIn f.holdings k)) (fun k e h => ?_) (by simp) (by simp))
    unfold reconcileSlot
    rw [reconcileRemovals_eq]
    exact committed_append_if_fits _ (Nat.le_refl _) (committed_removed_le h)
  | countdown c =>
    exact law.change (fun _ => countOrphans c) (fun _ _ h => (committed_countOrphans_le _ _).trans h)
      (by simp) (by simp)
  | orphanSpent k p =>
    exact law.change (fun j e => if j = k then e.filter fun r => !(r.station == p && r.ranOut) else e)
      (fun _ _ h => committed_ite_le _ (committed_removed_le h) h) rfl fun j => by
        rw [State.map_withMap, Table.get_set]
        split
        · next h => rw [h]
        · rfl
  | leaves =>
    exact law.change (fun _ => removeLive s.id) (fun _ _ => committed_removed_le)
      (by simp [State.leaving, State.queueLeave]) (by simp [State.leaving, State.queueLeave])
  | restarts => exact .of_cleared rfl
  | goesOffline | lapses | faults =>
    exact .of_cleared (by simp [State.left, State.lapsed, State.faulted, State.dropOut])
  | becomesMember | joins => exact law.of_eq (by simp [State.asMember, State.joining]) (by simp [State.asMember, State.joining])
  | _ => exact law.of_eq (by simp) (by simp)

/-- A setup is taken by a station at rest, whose map is empty; so the budget is kept with the setup and rest. -/
theorem budgetLaw_kept (h : step s = .next t) (setup : s.SetupLaw) (rest : s.TablesRest) (law : s.BudgetLaw) :
    t.BudgetLaw := by
  refine (step_keeps (Law := fun s => s.SetupLaw ∧ s.TablesRest ∧ s.BudgetLaw) (fun _ _ h => h)
    (fun s t r law => ?_) (fun s t r law => ⟨r.setupLaw law.1, ?_⟩)
    (fun _ _ _ c ⟨l, m, n⟩ => ⟨c.setupLaw l, c.tablesRest m, c.budgetLaw l n⟩)
    (fun _ on ⟨l, _, n⟩ => ⟨l, .of_drives (State.drives_raiseSilence on), n⟩) h ⟨setup, rest, law⟩).2.2
  · refine ⟨r.setupLaw law.1, ?_⟩
    obtain rfl | ⟨held, p, x, q, -, rfl⟩ := r
    · exact law.2
    · exact ⟨fun _ => ⟨rfl, rfl⟩, .of_cleared rfl⟩
  · obtain ⟨x, rfl | ⟨r, -, off, rfl⟩⟩ := r
    · exact law.2
    · exact ⟨law.2.1, .of_cleared (law.2.1 (by simp [State.drives, off])).1⟩

/-- Settles O52. -/
theorem mapLawsAreKept : Obligations.MapLawsAreKept :=
  fun _ _ h => ⟨fun setup rest law => budgetLaw_kept h setup (fun d => ⟨(rest d).1, (rest d).2.1⟩) law,
    holderListLaw_kept h⟩

/-! ### The law of orphan records (R3) -/

/-- Where no peer comes to life and every orphan record is an old one or that of another station that is ABSENT. -/
theorem State.OrphanLaw.change (h : s.OrphanLaw) (id : t.id = s.id)
    (live : ∀ p, (s.peers.get p).live = false → (t.peers.get p).live = false)
    (map : ∀ k, ∀ r ∈ t.map.get k, r.orphan.isSome = true →
      (∃ q ∈ s.map.get k, q.station = r.station ∧ q.orphan.isSome = true) ∨
      (r.station ≠ s.id ∧ (t.peers.get r.station).live = false)) : t.OrphanLaw := by
  obtain ⟨own, orphans⟩ := h
  refine ⟨id ▸ live _ own, fun k r hr ho => ?_⟩
  rcases map k r hr ho with ⟨q, hq, e, hqo⟩ | h
  · have := orphans k q hq hqo
    rw [e] at this
    exact ⟨id ▸ this.1, live _ this.2⟩
  · exact ⟨id ▸ h.1, h.2⟩

theorem State.OrphanLaw.of_eq (h : s.OrphanLaw) (id : t.id = s.id) (peers : t.peers = s.peers)
    (map : t.map = s.map) : t.OrphanLaw := by
  rwa [State.OrphanLaw, id, peers, map]

theorem State.OrphanLaw.of_cleared (peers : t.peers = PeerTable.cleared) (map : t.map = SlotMap.cleared) :
    t.OrphanLaw := by
  refine ⟨by simp [peers, PeerTable.cleared, PeerEntry.cleared], fun k r hr => ?_⟩
  simp [map] at hr

/-- Records that go, and live ones that come, are no orphans. -/
theorem State.OrphanLaw.sub (h : s.OrphanLaw) (id : t.id = s.id) (peers : t.peers = s.peers)
    (map : ∀ k, ∀ r ∈ t.map.get k, r.orphan.isSome = true → r ∈ s.map.get k) : t.OrphanLaw :=
  h.change id (fun _ => peers ▸ fun h => h) fun k r hr ho => .inl ⟨r, map k r hr ho, rfl, ho⟩

theorem mem_of_mem_append_if {g : Bool} {p : StationId} {u : Nat} {e : SlotEntry} {r : HolderRecord}
    (hr : r ∈ if g then append p u e else e) (ho : r.orphan.isSome = true) : r ∈ e := by
  split at hr
  · rcases List.mem_append.1 hr with h | h
    · exact h
    · rw [List.mem_singleton.1 h] at ho
      cases ho
  · exact hr

theorem mem_of_mem_ite_filter {g : Prop} [Decidable g] {f : HolderRecord → Bool} {e : SlotEntry} {r : HolderRecord}
    (hr : r ∈ if g then e.filter f else e) : r ∈ e := by
  split at hr
  · exact (List.mem_filter.1 hr).1
  · exact hr

theorem State.OrphanLaw.settled (n : Nat) (h : s.OrphanLaw) : (s.settled n).OrphanLaw := by
  rcases s.settled_cases n with e | ⟨-, e⟩ <;> rw [e]
  · exact h
  · refine h.sub (by simp) (by simp) fun k r hr _ => ?_
    rw [State.quorumDropped_eq] at hr
    simp [removeLive] at hr
    exact hr.1

theorem mem_orphanRecords {p : StationId} {c : CycleNumber} {n : Nat} {e : SlotEntry} {r : HolderRecord}
    (h : r ∈ orphanRecords p c n e) : r ∈ e ∨ r.station = p := by
  unfold orphanRecords at h
  grind

theorem countRecord_orphan_isSome (c : CycleNumber) (r : HolderRecord) :
    (countRecord c r).orphan.isSome = r.orphan.isSome := by
  have := countRecord_isLive c r
  rwa [HolderRecord.isLive, HolderRecord.isLive, ← Option.not_isSome, ← Option.not_isSome, Bool.not_inj_iff] at this

theorem Change.orphanLaw (h : Change mark s t) (law : s.OrphanLaw) : t.OrphanLaw := by
  have admits (p : StationId) (u : Nat) (x : SlotSet) : (s.withMap (s.map.admission s.beff p u x)).OrphanLaw :=
    law.sub rfl rfl fun k r hr ho => mem_of_mem_append_if (SlotMap.get_admission _ _ _ _ _ _ ▸ hr) ho
  cases h with
  | contestOther | contestOwn =>
    refine law.sub (by simp) (by simp) fun k r hr _ => ?_
    simp only [State.map_withMap, State.dropHoldings_frame, SlotMap.get_contest] at hr
    exact mem_of_mem_ite_filter hr
  | releaseOther | releaseOwn =>
    refine law.sub (by simp) (by simp) fun k r hr _ => ?_
    simp only [State.map_withMap, State.dropHoldings_frame, SlotMap.get_release] at hr
    exact mem_of_mem_ite_filter hr
  | claimOther p u x => exact admits p u x
  | grantBack u x =>
    refine (admits s.id u x).sub rfl rfl fun k r hr _ => ?_
    rw [State.map_withMap, SlotMap.get_release] at hr
    exact mem_of_mem_ite_filter hr
  | grantReleasing u x => exact (admits s.id u x).of_eq rfl rfl rfl
  | grantTaken u x => exact (admits s.id u x).of_eq (by simp) (by simp) (by simp)
  | peerPriority p q =>
    refine law.change rfl (fun r h => ?_) fun k r hr ho => .inl ⟨r, hr, rfl, ho⟩
    by_cases e : r = p <;> simp_all
  | peerExpires p other =>
    refine .settled _ (law.change rfl (fun r h => ?_) fun k r hr ho => ?_)
    · by_cases e : r = p <;> simp_all
    · rw [State.map_withMap, SlotMap.get_orphan] at hr
      rcases mem_orphanRecords hr with h | h
      · exact .inl ⟨r, h, rfl, ho⟩
      · exact .inr ⟨h ▸ other, by simp [h]⟩
  | peerOrphaned p other absent =>
    refine law.change rfl (fun r h => ?_) fun k r hr ho => ?_
    · by_cases e : r = p <;> simp_all
    · rw [State.map_withMap, SlotMap.get_orphan] at hr
      rcases mem_orphanRecords hr with h | h
      · exact .inl ⟨r, h, rfl, ho⟩
      · exact .inr ⟨h ▸ other, by simp [h, absent]⟩
  | peerLeaves p other =>
    refine .settled _ (law.change rfl (fun r h => ?_) fun k r hr ho => .inl ⟨r, ?_, rfl, ho⟩)
    · by_cases e : r = p <;> simp_all [PeerEntry.left]
    · simp [removeAll] at hr
      exact hr.1
  | peerPresents p f other =>
    obtain ⟨own, orphans⟩ := law
    refine .settled _ ⟨?_, fun k r hr ho => ?_⟩
    · simpa [other.symm] using own
    · simp only [State.map_withPeers, State.map_withMap, SlotMap.get_reconcile, reconcileSlot, reconcileRemovals_eq] at hr
      have kept := List.mem_filter.1 (mem_of_mem_append_if hr ho)
      have old := orphans k r kept.1 ho
      refine ⟨old.1, ?_⟩
      by_cases e : r.station = p
      · have back := old.2
        rw [e] at back
        simp [e, back, ho] at kept
      · simpa [e] using old.2
  | countdown c =>
    refine law.change rfl (fun _ h => h) fun k r hr ho => .inl ?_
    simp only [State.map_withMap, SlotMap.get_countdown, countOrphans, List.mem_filter, List.mem_map] at hr
    obtain ⟨⟨q, hq, rfl⟩, -⟩ := hr
    exact ⟨q, hq, (countRecord_station c q).symm, countRecord_orphan_isSome c q ▸ ho⟩
  | orphanSpent k p =>
    refine law.sub rfl rfl fun j r hr _ => ?_
    rw [State.map_withMap, Table.get_set] at hr
    split at hr
    · next h => exact h ▸ (List.mem_filter.1 hr).1
    · exact hr
  | leaves =>
    refine law.sub (by simp [State.leaving, State.queueLeave]) (by simp [State.leaving, State.queueLeave])
      fun k r hr _ => ?_
    simp [State.leaving, State.queueLeave, removeLive] at hr
    exact hr.1
  | restarts => exact .of_cleared rfl rfl
  | goesOffline | lapses | faults =>
    exact .of_cleared (by simp [State.left, State.lapsed, State.faulted, State.dropOut])
      (by simp [State.left, State.lapsed, State.faulted, State.dropOut])
  | becomesMember | joins =>
    exact law.of_eq (by simp [State.asMember, State.joining]) (by simp [State.asMember, State.joining])
      (by simp [State.asMember, State.joining])
  | _ => exact law.of_eq (by simp) (by simp) (by simp)

/-- Silence counts change no entry's liveness (R50). -/
theorem State.live_raiseSilence (p : StationId) (s : State) :
    (s.raiseSilence.peers.get p).live = (s.peers.get p).live := by
  simp only [State.raiseSilence, State.peers_withPeers, Table.get_change]
  grind

theorem orphanLaw_kept (h : step s = .next t) (law : s.OrphanLaw) : t.OrphanLaw := by
  refine law_kept (Law := State.OrphanLaw) (fun _ _ h => h) (fun s t r law => ?_) (fun _ _ h => h)
    (fun _ _ _ _ h => h) (fun _ _ _ => Change.orphanLaw)
    (fun s _ law => law.change rfl (fun p h => (s.live_raiseSilence p).trans h)
      fun k r hr ho => .inl ⟨r, hr, rfl, ho⟩) h law
  obtain rfl | ⟨held, p, x, q, -, rfl⟩ := r
  · exact law
  · exact .of_cleared rfl rfl

/-- Settles O53. -/
theorem orphanLawIsKept : Obligations.OrphanLawIsKept :=
  fun _ _ law h => orphanLaw_kept h law

/-! ### Standing and the served flag (R66, R82) -/

theorem State.StandingLaw.of_eq (h : s.StandingLaw) (member : t.member = s.member) (setup : t.setup = s.setup) :
    t.StandingLaw := by
  rwa [State.StandingLaw, member, State.cfg_congr setup]

theorem State.StandingLaw.of_other (h : t.member.station ≠ .member) : t.StandingLaw := fun m => absurd m h

theorem Change.standingLaw (h : Change mark s t) (setup : s.SetupLaw) (law : s.StandingLaw) : t.StandingLaw := by
  have floor (h : s.member.station ≠ .offline) : 3 ≤ s.cfg.expiry := Setup.three_le_expiry (setup.valid_cfg h)
  cases h with
  | counts x station standing =>
    intro member
    have member : s.member.station = .member := station ▸ member
    have := floor (by simp [member])
    show x.standing + 1 < s.cfg.expiry
    rcases standing member with e | e | e
    · exact e ▸ law member
    · omega
    · exact e
  | pass n =>
    intro member
    exact law (State.station_pass n s ▸ member)
  | becomesMember tm joining =>
    intro _
    have := floor (by simp [joining])
    show 0 + 1 < s.cfg.expiry
    omega
  | restarts | joins | leaves | goesOffline | lapses | faults => exact .of_other fun h => by cases h
  | _ => exact law.of_eq (by simp) (by simp)

theorem standingLaw_kept (h : step s = .next t) (setup : s.SetupLaw) (law : s.StandingLaw) : t.StandingLaw := by
  refine (step_keeps (Law := fun s => s.SetupLaw ∧ s.StandingLaw) (fun _ _ h => h)
    (fun s t r law => ⟨r.setupLaw law.1, ?_⟩) (fun s t r law => ⟨r.setupLaw law.1, ?_⟩)
    (fun _ _ _ c ⟨l, m⟩ => ⟨c.setupLaw l, c.standingLaw l m⟩) (fun _ _ h => h) h ⟨setup, law⟩).2
  · obtain rfl | ⟨held, p, x, q, -, rfl⟩ := r
    · exact law.2
    · exact .of_other fun h => by cases h
  · obtain ⟨x, rfl | ⟨r, -, off, rfl⟩⟩ := r
    · exact law.2
    · exact .of_other fun h => by rw [show s.member.station = .member from h] at off; cases off

theorem State.ServedLaw.of_eq (h : s.ServedLaw) (station : t.member.station = .member ∨ s.member.station ≠ .member)
    (demands : t.demands = s.demands) : t.ServedLaw := by
  intro other d hd
  exact h (station.resolve_left other) d (demands ▸ hd)

theorem State.ServedLaw.of_cleared {ds : List Demand} (demands : t.demands = clearServed ds) : t.ServedLaw :=
  fun _ _ h => head_clearServed (demands ▸ h)

theorem Change.servedLaw (h : Change mark s t) (law : s.ServedLaw) : t.ServedLaw := by
  have same (e : t.member.station = s.member.station) : t.member.station = .member ∨ s.member.station ≠ .member := by
    rw [e]
    exact em _
  cases h with
  | counts x station => exact law.of_eq (same station) rfl
  | pass n => exact law.of_eq (same (State.station_pass n s)) rfl
  | demands ds want demandLaw served => exact served law
  | headChanges ds => exact .of_cleared (State.demands_headChange _)
  | becomesMember => exact law.of_eq (.inl rfl) rfl
  | joins ready => exact law.of_eq (.inr (by rcases ready with ⟨h, -⟩ | h <;> simp [h])) rfl
  | goesOffline leaving => exact law.of_eq (.inr (by simp [leaving])) (by simp [State.left])
  | lapses | faults => exact .of_cleared (ds := s.demands) (by simp [State.lapsed, State.faulted, State.dropOut])
  | restarts | leaves => exact .of_cleared (ds := []) rfl
  | _ => exact law.of_eq (same (by simp)) (by simp)

theorem servedLaw_kept (h : step s = .next t) (law : s.ServedLaw) : t.ServedLaw := by
  refine law_kept (Law := State.ServedLaw) (fun _ _ h => h) (fun s t r law => ?_) (fun _ _ h => h)
    (fun _ _ _ _ h => h) (fun _ _ _ => Change.servedLaw) (fun _ _ h => h) h law
  obtain rfl | ⟨held, p, x, q, -, rfl⟩ := r
  · exact law
  · exact .of_cleared (ds := []) rfl

/-- Settles O51. -/
theorem membershipLawsAreKept : Obligations.MembershipLawsAreKept :=
  fun _ _ h => ⟨setupLaw_kept h, restLaw_kept h, standingLaw_kept h, servedLaw_kept h⟩

end Sys2Proof.Machine
end

section
/-!
PROOF. The law of held amount, of the output and of claims.
-/

namespace Sys2Proof.Machine

variable {mark : Option MarkFields} {s t : State}

/-! ### The live count and the quorum -/

/-- The live count looks at which peers count and at the own station state alone (R54). -/
theorem State.liveCount_congr (counts : ∀ p, (t.peers.get p).counts = (s.peers.get p).counts)
    (station : t.member.station = s.member.station) : t.liveCount = s.liveCount := by
  unfold State.liveCount
  simp only [counts, station]

theorem State.quorate_congr (setup : t.setup = s.setup)
    (counts : ∀ p, (t.peers.get p).counts = (s.peers.get p).counts)
    (station : t.member.station = s.member.station) : t.quorate = s.quorate := by
  unfold State.quorate
  rw [State.liveCount_congr counts station, State.cfg_congr setup, station]

theorem State.not_quorate (h : s.member.station ≠ .member) : s.quorate = false := by
  simp [State.quorate, h]

theorem State.quorate_iff (s : State) :
    s.quorate = true ↔ s.member.station = .member ∧ s.cfg.quorum ≤ s.liveCount := by
  simp [State.quorate]

/-- A change of one entry that leaves its liveness and its role leaves what counts. -/
theorem counts_set_same {peers : PeerTable} {e : PeerEntry} {p : StationId} (h : e.counts = (peers.get p).counts)
    (q : StationId) : ((Table.set peers p e).get q).counts = (peers.get q).counts := by
  rw [Table.get_set]
  split
  · next e => rw [h, e]
  · rfl

/-- Silence counts change nothing that counts (R50, R54). -/
theorem State.counts_raiseSilence (p : StationId) (s : State) :
    (s.raiseSilence.peers.get p).counts = (s.peers.get p).counts := by
  simp only [State.raiseSilence, State.peers_withPeers, Table.get_change]
  split
  · rfl
  · split <;> rfl

/-- Where the live count is handed on, a MEMBER that was quorate is so still, or has lost everything it held (R77). -/
theorem State.settled_or (n : Nat) (s : State) :
    s.settled n = s.quorumDropped ∨
    s.settled n = s ∧ (s.member.station = .member → s.cfg.quorum ≤ n → s.quorate = true) := by
  unfold State.settled
  split
  · exact .inl rfl
  · next h =>
    refine .inr ⟨rfl, fun member quorum => (s.quorate_iff).2 ⟨member, not_lt.1 fun lost => h ⟨member, quorum, lost⟩⟩⟩

/-! ### The law of held amount (R89) -/

theorem State.HeldAmountLaw.of_le (h : s.HeldAmountLaw) (count : t.heldCount ≤ s.heldCount)
    (want : t.headWant = s.headWant) (quorate : t.quorate = s.quorate) : t.HeldAmountLaw :=
  ⟨want ▸ count.trans h.1, fun lost => Nat.le_zero.1 (count.trans (h.2 (quorate ▸ lost)).le)⟩

theorem State.HeldAmountLaw.of_zero (h : t.heldCount = 0) : t.HeldAmountLaw :=
  ⟨h ▸ Nat.zero_le _, fun _ => h⟩

theorem State.HeldAmountLaw.of_none (h : t.holdings = []) : t.HeldAmountLaw :=
  .of_zero (by simp [State.heldCount, h])

/-- A station that was not quorate held nothing and holds what it held. -/
theorem State.HeldAmountLaw.of_same (h : s.HeldAmountLaw) (quorate : s.quorate = false)
    (holdings : t.holdings = s.holdings) : t.HeldAmountLaw :=
  .of_zero (by rw [State.heldCount, holdings]; exact h.2 quorate)

theorem State.holdings_releaseHoldings (p : SlotIndex → Bool) (s : State) :
    (s.releaseHoldings p).holdings = releaseEntries p s.holdings := by
  obtain ⟨o, h, -⟩ := s.releaseHoldings_spec p
  rw [h]
  rfl

theorem State.heldCount_releaseHoldings_le (p : SlotIndex → Bool) (s : State) :
    (s.releaseHoldings p).heldCount ≤ s.heldCount := by
  rw [State.heldCount, State.holdings_releaseHoldings, releaseEntries_held]
  exact (List.monotone_filter_right _ fun h hh => (Bool.and_eq_true_iff.1 hh).1).length_le

/-- Released as surplus, at most the first `k` stay PENDING or ACTIVE (R86). -/
theorem State.heldCount_releaseSurplus_le (k : Nat) (s : State) : (s.releaseSurplus k).heldCount ≤ k := by
  have named : ((releaseEntries (fun i => (s.heldSlots.drop k).contains i) s.holdings).filter Holding.held).map
      Holding.slot = s.heldSlots.filter fun i => !(s.heldSlots.drop k).contains i := by
    rw [releaseEntries_held, State.heldSlots, List.filter_map, List.filter_filter]
    simp only [Function.comp_def, Bool.and_comm]
  have kept (l : List SlotIndex) : (l.filter fun i => !(l.drop k).contains i).length ≤ k := by
    conv_lhs => rw [← List.take_append_drop k l]
    rw [List.filter_append, List.length_append, List.take_append_drop]
    have gone : (l.drop k).filter (fun i => !(l.drop k).contains i) = [] := by simp
    rw [gone, List.length_nil, Nat.add_zero]
    exact (List.length_filter_le _ _).trans (List.length_take_le _ _)
  rw [State.releaseSurplus, State.heldCount, State.holdings_releaseHoldings, ← List.length_map, named]
  exact kept _

theorem State.heldCount_addHoldings_releasing (ks : List SlotIndex) (s : State) :
    (s.addHoldings .releasing ks).heldCount = s.heldCount := by
  simp [State.heldCount, List.filter_map, Function.comp_def]

theorem Holding.held_promote (h : Holding) : h.promote.held = h.held := by
  obtain ⟨k, st⟩ := h
  cases st <;> rfl

theorem State.heldCount_promote (s : State) :
    (s.withHoldings (s.holdings.map Holding.promote)).heldCount = s.heldCount := by
  simp [State.heldCount, List.filter_map, Function.comp_def, Holding.held_promote]

theorem State.holdings_quorumDropped (s : State) : s.quorumDropped.holdings = [] := by
  rw [State.quorumDropped_eq]
  rfl

theorem State.HeldAmountLaw.settled (h : s.HeldAmountLaw) (holdings : t.holdings = s.holdings)
    (demands : t.demands = s.demands) (setup : t.setup = s.setup)
    (station : t.member.station = s.member.station) : (t.settled s.liveCount).HeldAmountLaw := by
  rcases t.settled_or s.liveCount with e | ⟨e, kept⟩ <;> rw [e]
  · exact .of_none t.holdings_quorumDropped
  · have count : t.heldCount = s.heldCount := by simp [State.heldCount, holdings]
    have want : t.headWant = s.headWant := by simp [State.headWant, demands]
    refine ⟨count ▸ want ▸ h.1, fun lost => count ▸ h.2 ?_⟩
    by_contra quorate
    rw [Bool.not_eq_false, State.quorate_iff] at quorate
    have := kept (station.trans quorate.1) (State.cfg_congr setup ▸ quorate.2)
    simp [lost] at this

theorem Change.heldAmountLaw (h : Change mark s t) (law : s.HeldAmountLaw) : t.HeldAmountLaw := by
  cases h with
  | counts x station =>
    exact law.of_le le_rfl rfl (State.quorate_congr rfl (fun _ => rfl) station)
  | pass n =>
    exact law.of_le le_rfl rfl (State.quorate_congr (by simp) (by simp) (State.station_pass n s))
  | demands ds want => exact law.of_le le_rfl want rfl
  | headChanges ds =>
    have holdings : (s.withDemands ds).headChange.holdings =
        ((s.withDemands ds).releaseSurplus (s.withDemands ds).headWant).holdings := by simp [State.headChange]
    refine ⟨?_, fun lost => ?_⟩
    · have want : (s.withDemands ds).headChange.headWant = (s.withDemands ds).headWant := by
        have := headWant_clearServed ds s
        simpa [State.headWant, State.demands_headChange] using this
      rw [State.heldCount, holdings, want]
      exact State.heldCount_releaseSurplus_le _ _
    · rw [State.heldCount, holdings]
      refine Nat.le_zero.1 ((State.heldCount_releaseHoldings_le _ _).trans (law.2 ?_).le)
      exact (State.quorate_congr (by simp) (by simp) (by simp)).symm.trans lost
  | releases p =>
    exact law.of_le (State.heldCount_releaseHoldings_le p s) (by simp [State.headWant])
      (State.quorate_congr (by simp) (by simp) (by simp))
  | promotes => exact law.of_le s.heldCount_promote.le rfl rfl
  | contestOwn x | releaseOwn x =>
    refine law.of_le ?_ (by simp [State.headWant])
      (State.quorate_congr (by simp) (by simp) (by simp))
    rw [State.heldCount, State.holdings_dropHoldings, List.filter_filter]
    exact (List.monotone_filter_right _ fun h hh => (Bool.and_eq_true_iff.1 hh).1).length_le
  | grantReleasing u x =>
    exact law.of_le (State.heldCount_addHoldings_releasing _ _).le rfl rfl
  | grantTaken u x quorate =>
    refine ⟨?_, fun lost => ?_⟩
    · refine (State.heldCount_releaseSurplus_le _ _).trans_eq ?_
      simp [State.headWant]
    · rw [State.quorate_congr (s := s) (by simp) (by simp) (by simp), quorate] at lost
      cases lost
  | peerPriority p q =>
    exact law.of_le le_rfl rfl (State.quorate_congr rfl (counts_set_same rfl) rfl)
  | peerOrphaned p other absent =>
    exact law.of_le le_rfl rfl (State.quorate_congr rfl (counts_set_same rfl) rfl)
  | peerExpires | peerLeaves | peerPresents => exact law.settled rfl rfl rfl rfl
  | restarts | leaves | lapses | faults =>
    exact .of_none (by simp [State.lapsed, State.faulted, State.dropOut, State.cleared, State.leaving, State.queueLeave])
  | joins ready =>
    exact law.of_same (State.not_quorate (by rcases ready with ⟨h, -⟩ | h <;> simp [h])) rfl
  | becomesMember tm joining => exact law.of_same (State.not_quorate (by simp [joining])) rfl
  | goesOffline leaving => exact law.of_same (State.not_quorate (by simp [leaving])) (by simp [State.left])
  | _ =>
    exact law.of_le (by simp [State.heldCount]) (by simp [State.headWant])
      (State.quorate_congr (by simp) (by simp) (by simp))

theorem heldAmountLaw_kept (h : step s = .next t) (law : s.HeldAmountLaw) : t.HeldAmountLaw := by
  refine law_kept (Law := State.HeldAmountLaw) (fun _ _ h => h) (fun s t r law => ?_) (fun _ _ h => h)
    (fun s _ _ off law => law.of_same (State.not_quorate (by simp [off])) rfl) (fun _ _ _ => Change.heldAmountLaw)
    (fun s _ law => law.of_le le_rfl rfl (State.quorate_congr rfl s.counts_raiseSilence rfl)) h law
  obtain rfl | ⟨held, p, x, q, -, rfl⟩ := r
  · exact law
  · exact .of_none rfl

/-- Settles O55. -/
theorem heldAmountLawIsKept : Obligations.HeldAmountLawIsKept :=
  fun _ _ law h => heldAmountLaw_kept h law

/-! ### The law of the output (R121) -/

@[simp] theorem State.activeAt_withOutput (o : LoadOutput) (s : State) : (s.withOutput o).activeAt = s.activeAt := rfl

theorem State.OutputLaw.of_idle (h : t.output = ⟨.idle, false⟩) : t.OutputLaw := by
  simp [State.OutputLaw, h]

/-- Phase OFF of another kind at a MEMBER, in whatever slot. -/
theorem State.OutputLaw.of_off {p : OutputPhase} (h : t.output = ⟨p, false⟩) (off : p ≠ .on)
    (station : t.member.station = .member) : t.OutputLaw := by
  simp [State.OutputLaw, h, off, station]

theorem State.activeAt_mono {hs : List Holding} (h : ∀ g ∈ s.holdings, g.isActive = true → g ∈ hs) {k : SlotIndex}
    (active : s.activeAt k = true) : (s.withHoldings hs).activeAt k = true := by
  simp only [State.activeAt, List.any_eq_true, Bool.and_eq_true] at active ⊢
  obtain ⟨g, hg, slot, ha⟩ := active
  exact ⟨g, h g hg ha, slot, ha⟩

/-- The output, the slot and the ACTIVE entries stay, and a quorum that the output leans on. -/
theorem State.OutputLaw.of_eq (h : s.OutputLaw) (output : t.output = s.output)
    (slot : ∀ k e, s.timer.phase = .inSlot k e → ∃ e, t.timer.phase = .inSlot k e)
    (active : ∀ k, s.activeAt k = true → t.activeAt k = true)
    (quorate : s.quorate = true → t.quorate = true)
    (station : t.member.station ≠ .member → s.member.station ≠ .member) : t.OutputLaw := by
  obtain ⟨on, carry, idle⟩ := h
  have current (h : s.currentActive = true) : t.currentActive = true := by
    unfold State.currentActive at h
    split at h
    · next k e hp =>
      obtain ⟨e', hp'⟩ := slot k e hp
      simp [State.currentActive, hp', active k h]
    · cases h
  have following (h : s.followingActive = true) : t.followingActive = true := by
    unfold State.followingActive at h
    split at h
    · next k e hp =>
      obtain ⟨e', hp'⟩ := slot k e hp
      obtain ⟨j, hj, ha⟩ := (Option.any_eq_true _ _).1 h
      simp [State.followingActive, hp', hj, active j ha]
    · cases h
  rw [State.OutputLaw, output]
  exact ⟨fun h => ⟨quorate (on h).1, current (on h).2⟩, fun h => ⟨(carry h).1, following (carry h).2⟩,
    fun h => idle (station h)⟩

/-- The output that follows the Holding List keeps its law, whatever the list has become (R123, R124). -/
theorem State.OutputLaw.sync (h : s.OutputLaw) (output : t.output = s.output) (timer : t.timer = s.timer)
    (quorate : t.quorate = s.quorate) (station : t.member.station = s.member.station) : t.syncOutput.OutputLaw := by
  obtain ⟨on, carry, idle⟩ := h
  obtain ⟨o, e, off, slots⟩ := t.syncOutput_spec
  by_cases hon : s.output.phase = .on
  · obtain ⟨quorum, current⟩ := on hon
    have member : t.member.station = .member := station.trans (State.member_of_quorate quorum)
    unfold State.currentActive at current
    split at current
    · next k el hp =>
      have := slots k el (timer ▸ hp) (output ▸ hon)
      rw [e]
      split at this
      · exact .of_idle this
      · next hk =>
        split at this
        · exact .of_off (p := .tail) this (by decide) member
        · next hc =>
          have hp' : t.timer.phase = .inSlot k el := timer ▸ hp
          have q : (t.withOutput o).quorate = true := quorate.trans quorum
          refine ⟨fun _ => ⟨q, ?_⟩, fun hcarry => ⟨?_, ?_⟩, fun h => absurd member h⟩
          · simpa [State.currentActive, hp'] using hk
          · rw [State.output_withOutput, this, output]
            exact hon
          · rw [State.output_withOutput, this] at hcarry
            simp only [hcarry, true_and, Bool.not_eq_false] at hc
            simpa [State.followingActive, hp'] using hc
    · cases current
  · have same := off (output ▸ hon)
    have dark : t.output.carry = false := by
      by_contra h
      exact hon (carry (by simpa [output] using h)).1
    rw [e, same]
    refine ⟨fun h => absurd (output ▸ h) hon, fun h => ?_, fun h => output ▸ idle (station ▸ h)⟩
    rw [State.output_withOutput, dark] at h
    cases h

theorem State.OutputLaw.settled (h : s.OutputLaw) (holdings : t.holdings = s.holdings)
    (output : t.output = s.output) (timer : t.timer = s.timer) (setup : t.setup = s.setup)
    (station : t.member.station = s.member.station) : (t.settled s.liveCount).OutputLaw := by
  rcases t.settled_or s.liveCount with e | ⟨e, kept⟩ <;> rw [e]
  · exact .of_idle (by rw [State.quorumDropped_eq]; rfl)
  · refine h.of_eq output (fun k e h => ⟨e, timer ▸ h⟩) (fun k h => ?_) (fun h => ?_) fun h => station ▸ h
    · rwa [State.activeAt, holdings]
    · rw [State.quorate_iff] at h
      exact kept (station.trans h.1) (State.cfg_congr setup ▸ h.2)

theorem State.OutputLaw.not_carry (h : s.OutputLaw) (off : s.output.phase ≠ .on) : s.output.carry = false := by
  by_contra c
  exact off (h.2.1 (by simpa using c)).1

theorem Change.outputLaw (h : Change mark s t) (law : s.OutputLaw) : t.OutputLaw := by
  have same {t : State} (output : t.output = s.output) (timer : t.timer.phase = s.timer.phase)
      (active : ∀ k, s.activeAt k = true → t.activeAt k = true) (setup : t.setup = s.setup)
      (counts : ∀ p, (t.peers.get p).counts = (s.peers.get p).counts)
      (station : t.member.station = s.member.station) : t.OutputLaw :=
    law.of_eq output (fun k e h => ⟨e, timer ▸ h⟩) active
      (fun h => (State.quorate_congr setup counts station).trans h) fun h => station ▸ h
  cases h with
  | counts x station => exact same rfl rfl (fun _ h => h) rfl (fun _ => rfl) station
  | pass n =>
    refine law.of_eq (by simp) (fun k e h => ?_) (fun k h => by simpa [State.activeAt] using h)
      (fun h => (State.quorate_congr (by simp) (by simp) (State.station_pass n s)).trans h)
      fun h => State.station_pass n s ▸ h
    simp [State.pass, h]
  | slotBegins j k e phase next =>
    rw [State.nextSlotBegins_eq, State.outputSlotStart_eq]
    by_cases member : s.member.station = .member
    · by_cases carry : s.output.carry = true
      · obtain ⟨on, follows⟩ := law.2.1 carry
        have active : s.activeAt k = true := by simpa [State.followingActive, phase, next] using follows
        rw [State.member_withTimer, State.output_withTimer, if_pos member, if_pos carry]
        refine ⟨fun _ => ⟨(law.1 on).1, active⟩, fun h => (by cases h), fun h => absurd member h⟩
      · rw [State.member_withTimer, State.output_withTimer, if_pos member, if_neg carry]
        exact .of_off (p := .lead) rfl (by decide) member
    · exact .of_idle (if_neg member)
  | aligns c =>
    by_cases member : s.member.station = .member
    · rw [if_pos member]
      exact .of_off (p := .lead) rfl (by decide) member
    · exact .of_idle (if_neg member)
  | gapBegins => exact .of_idle rfl
  | onPoint k e phase lead =>
    rw [State.decideOn_eq]
    split
    · next h =>
      refine ⟨fun _ => ⟨h.1, ?_⟩, fun c => ?_, fun m => absurd (State.member_of_quorate h.1) m⟩
      · simpa [State.currentActive, phase] using h.2
      · exact absurd c (by simp [law.not_carry (by simp [lead])])
    · exact .of_idle rfl
  | tailPoint k e phase on =>
    obtain ⟨quorate, current⟩ := law.1 on
    have member := State.member_of_quorate quorate
    rw [State.decideTail_eq]
    split
    · next h =>
      simp only [State.carries, Bool.and_eq_true] at h
      refine ⟨fun _ => ⟨quorate, current⟩, fun _ => ⟨rfl, ?_⟩, fun m => absurd member m⟩
      simpa [State.followingActive, phase] using h.2
    · exact .of_off (p := .tail) rfl (by decide) member
  | headChanges ds =>
    have released : ((s.withDemands ds).releaseSurplus (s.withDemands ds).headWant).OutputLaw := by
      rw [State.releaseSurplus, State.releaseHoldings]
      exact law.sync rfl rfl rfl rfl
    refine State.OutputLaw.of_eq released (by simp [State.headChange]) (fun k e h => ⟨e, by simpa using h⟩)
      (fun k h => by simpa [State.activeAt, State.headChange] using h)
      (fun h => (State.quorate_congr (by simp) (by simp) (by simp)).trans h) (by simp)
  | releases p => exact law.sync rfl rfl rfl rfl
  | contestOwn x | releaseOwn x => exact law.sync rfl rfl rfl rfl
  | promotes =>
    refine same rfl rfl (fun k h => State.activeAt_mono (fun g hg ha => ?_) h) rfl (fun _ => rfl) rfl
    refine List.mem_map.2 ⟨g, hg, ?_⟩
    unfold Holding.promote
    rw [if_neg]
    intro hp
    rw [Holding.isActive, hp] at ha
    cases ha
  | grantReleasing u x =>
    exact same rfl rfl (fun k h => State.activeAt_mono (s := s.withMap _)
      (fun g hg _ => List.mem_append_left _ hg) h) rfl (fun _ => rfl) rfl
  | grantTaken u x =>
    rw [State.releaseSurplus, State.releaseHoldings]
    exact law.sync (by simp [State.queueRelease]) (by simp [State.queueRelease])
      (State.quorate_congr (by simp [State.queueRelease]) (by simp [State.queueRelease]) (by simp [State.queueRelease]))
      (by simp [State.queueRelease])
  | peerPriority p q | peerOrphaned p other absent =>
    exact same rfl rfl (fun _ h => h) rfl (counts_set_same rfl) rfl
  | peerExpires | peerLeaves | peerPresents => exact law.settled rfl rfl rfl rfl rfl
  | restarts => exact .of_idle rfl
  | leaves => exact .of_idle (by simp [State.leaving, State.queueLeave])
  | lapses | faults => exact .of_idle (by simp [State.lapsed, State.faulted, State.dropOut])
  | joins ready => exact .of_idle (law.2.2 (by rcases ready with ⟨h, -⟩ | h <;> simp [h]))
  | becomesMember tm joining => exact .of_idle (law.2.2 (by simp [joining]))
  | goesOffline leaving => exact .of_idle (by simpa [State.left] using law.2.2 (by simp [leaving]))
  | _ => exact same (by simp) (by simp) (fun k h => by simpa [State.activeAt] using h) (by simp) (by simp) (by simp)

theorem outputLaw_kept (h : step s = .next t) (law : s.OutputLaw) : t.OutputLaw := by
  refine law_kept (Law := State.OutputLaw) (fun _ _ h => h) (fun s t r law => ?_) (fun _ _ h => h)
    (fun _ _ _ _ _ => .of_idle rfl) (fun _ _ _ => Change.outputLaw)
    (fun s _ law => law.of_eq rfl (fun k e h => ⟨e, h⟩) (fun _ h => h)
      (fun h => h ▸ State.quorate_congr rfl s.counts_raiseSilence rfl) fun h => h) h law
  obtain rfl | ⟨held, p, x, q, -, rfl⟩ := r
  · exact law
  · exact .of_idle rfl

/-- LOADOUT at its on level, in the terms of Section 7.3. -/
theorem State.OutputLaw.on_level (h : t.OutputLaw) (on : t.loadout = .on) :
    t.member.station = .member ∧ t.cfg.quorum ≤ t.liveCount ∧
      ∃ k e, t.timer.phase = .inSlot k e ∧ ∃ h ∈ t.holdings, h.slot = k ∧ h.state = .active := by
  have phase : t.output.phase = .on := by
    unfold State.loadout at on
    grind
  obtain ⟨quorate, current⟩ := h.1 phase
  rw [State.quorate_iff] at quorate
  refine ⟨quorate.1, quorate.2, ?_⟩
  unfold State.currentActive at current
  split at current
  · next k e hp =>
    refine ⟨k, e, hp, ?_⟩
    simpa [State.activeAt, Holding.isActive] using current
  · cases current

theorem State.loadoutPin_eq (s : State) : s.loadoutPin =
    match s.setup with
    | none => none
    | some c => some (decide (s.output.phase = .on) == decide (c.polarity = .activeHigh)) := by
  unfold State.loadoutPin State.loadout State.setupValid State.cfg
  cases s.setup with
  | none => rfl
  | some c =>
    obtain ⟨_, _, _, _, _, _, _, _, _, _, _, pol⟩ := c
    by_cases on : s.output.phase = .on <;> cases pol <;> simp [on]

/-- Settles O57. -/
theorem outputLawIsKept : Obligations.OutputLawIsKept :=
  ⟨State.loadoutPin_eq, fun _ _ law h => ⟨outputLaw_kept h law, (outputLaw_kept h law).on_level⟩⟩

/-! ### The law of claims (R98) -/

theorem State.ClaimLaw.of_eq (h : s.ClaimLaw) (claim : t.outbox.claim = s.outbox.claim)
    (inFlight : t.outbox.claimInFlight = true → s.outbox.claimInFlight = true)
    (outstanding : t.planner.claimOutstanding = s.planner.claimOutstanding)
    (picks : t.planner.pickOrder = s.planner.pickOrder)
    (station : t.member.station = s.member.station) : t.ClaimLaw := by
  obtain ⟨waits, flies⟩ := h
  rw [State.ClaimLaw, claim, outstanding, picks, station]
  refine ⟨fun h => ?_, fun h => flies (inFlight h)⟩
  obtain ⟨member, not_flying, rest⟩ := waits h
  refine ⟨member, ?_, rest⟩
  by_contra h
  rw [inFlight (by simpa using h)] at not_flying
  cases not_flying

/-- No CLAIM waits, and that in flight keeps its flag or is LEAVING's. -/
theorem State.ClaimLaw.of_none (claim : t.outbox.claim = none)
    (flies : t.outbox.claimInFlight = true → t.member.station = .leaving ∨ t.planner.claimOutstanding = true) :
    t.ClaimLaw :=
  ⟨fun h => by simp [claim] at h, flies⟩

theorem State.ClaimLaw.none_waits (h : s.ClaimLaw) (station : s.member.station ≠ .member) : s.outbox.claim = none := by
  by_contra some
  exact station (h.1 (by simpa [Option.isSome_iff_ne_none] using some)).1

/-- While a CLAIM is in flight, none waits. -/
theorem State.ClaimLaw.none_waits_of_flies (h : s.ClaimLaw) (flies : s.outbox.claimInFlight = true) :
    s.outbox.claim = none := by
  by_contra some
  have := (h.1 (by simpa [Option.isSome_iff_ne_none] using some)).2.1
  simp [flies] at this

theorem State.ClaimLaw.withdraw (h : s.ClaimLaw) (claim : t.outbox.claim = none)
    (inFlight : t.outbox.claimInFlight = s.outbox.claimInFlight)
    (outstanding : t.planner.claimOutstanding = (s.planner.claimOutstanding && s.outbox.claim.isNone))
    (station : t.member.station = s.member.station) : t.ClaimLaw := by
  refine .of_none claim fun flies => ?_
  rw [inFlight] at flies
  rw [outstanding, station, h.none_waits_of_flies flies, Option.isNone_none, Bool.and_true]
  exact h.2 flies

theorem Outbox.claimInFlight_congr {o p : Outbox} (h : o.inFlight = p.inFlight) :
    o.claimInFlight = p.claimInFlight := by
  rw [Outbox.claimInFlight, h]
  rfl

theorem State.ClaimLaw.settled (n : Nat) (h : s.ClaimLaw) : (s.settled n).ClaimLaw := by
  rcases s.settled_cases n with e | ⟨-, e⟩ <;> rw [e]
  · exact h
  · rw [State.quorumDropped_eq]
    refine h.withdraw rfl (Outbox.claimInFlight_congr ?_) rfl rfl
    rw [(Outbox.queueRelease_spec _ _).1]
    rfl

theorem State.outbox_releaseHoldings (p : SlotIndex → Bool) (s : State) :
    (s.releaseHoldings p).outbox = s.outbox.queueRelease (slotSetOf (s.heldWhere p)) := by
  obtain ⟨o, h, -⟩ := s.releaseHoldings_spec p
  rw [h]
  rfl

@[simp] theorem Outbox.claim_queueRelease (x : SlotSet) (o : Outbox) : (o.queueRelease x).claim = o.claim := by
  rw [(o.queueRelease_spec x).1]

@[simp] theorem Outbox.inFlight_queueRelease (x : SlotSet) (o : Outbox) :
    (o.queueRelease x).inFlight = o.inFlight := by
  rw [(o.queueRelease_spec x).1]

theorem State.ClaimLaw.released (p : SlotIndex → Bool) (h : s.ClaimLaw) : (s.releaseHoldings p).ClaimLaw :=
  have flight : (s.releaseHoldings p).outbox.claimInFlight = s.outbox.claimInFlight :=
    Outbox.claimInFlight_congr (by simp [State.outbox_releaseHoldings])
  h.of_eq (by simp [State.outbox_releaseHoldings]) (fun f => flight ▸ f) (by simp) (by simp) (by simp)

/-- A CLAIM fitted to its room keeps its law: withdrawn, shortened with its pick order, or as it was (R99). -/
theorem State.ClaimLaw.fitted (h : s.ClaimLaw) : s.fitClaim.ClaimLaw := by
  unfold State.fitClaim
  split
  · next waits =>
    obtain ⟨member, not_flying, outstanding, claim, picks⟩ := h.1 waits
    dsimp only
    split
    · rw [State.withdrawClaim_spec]
      exact h.withdraw rfl rfl rfl rfl
    · next room =>
      split
      · refine ⟨fun _ => ⟨member, not_flying, outstanding, rfl, ?_⟩, h.2⟩
        simp [room, picks]
      · exact h
  · exact h

theorem Change.claimLaw (h : Change mark s t) (law : s.ClaimLaw) : t.ClaimLaw := by
  cases h with
  | counts x station => exact law.of_eq rfl (fun h => h) rfl rfl station
  | pass n => exact law.of_eq (by simp) (by simp) (by simp) (by simp) (State.station_pass n s)
  | planner x outstanding picks => exact law.of_eq rfl (fun h => h) outstanding picks rfl
  | withdrawClaim =>
    rw [State.withdrawClaim_spec]
    exact law.withdraw rfl rfl rfl rfl
  | waiting o rest claim inFlight =>
    exact law.of_eq claim (fun h => Outbox.claimInFlight_congr inFlight ▸ h) rfl rfl rfl
  | flightEnds => exact law.of_eq rfl (fun h => by cases h) rfl rfl rfl
  | claimEnds c flies =>
    refine .of_none ?_ fun h => by cases h
    exact law.none_waits_of_flies (by simp [Outbox.claimInFlight, flies])
  | flies n o drives next =>
    have offers := State.nextNotice_spec.1 next
    have stays (claim : o.claim = s.outbox.claim) (other : ∀ c, n ≠ .claim c) :
        (s.withOutbox { o with inFlight := some n }).ClaimLaw := by
      refine law.of_eq claim (fun h => ?_) rfl rfl rfl
      cases n with
      | claim c => exact absurd rfl (other c)
      | _ => cases h
    rcases offers with ⟨k, -, -, rfl, rfl⟩ | ⟨-, -, rfl, rfl⟩ | ⟨-, -, q, x, -, rfl, rfl⟩ | ⟨-, -, -, x, -, rfl, rfl⟩ |
      ⟨-, -, -, -, -, rfl, rfl⟩ | ⟨-, -, -, -, -, -, rfl, x, -, rfl⟩ | ⟨-, -, -, -, -, -, x, waits, -, rfl, rfl⟩
    case inr.inr.inr.inr.inr.inr =>
      exact .of_none rfl fun _ => .inr (law.1 (by simp [waits])).2.2.1
    all_goals exact stays rfl fun c h => by cases h
  | plans picks quorate idle some_pick =>
    have member := State.member_of_quorate quorate
    refine ⟨fun _ => ⟨member, ?_, rfl, rfl, some_pick⟩, fun _ => .inr rfl⟩
    by_contra h
    rcases law.2 (Bool.not_eq_false _ ▸ h) with h | h
    · simp [member] at h
    · simp [idle] at h
  | headChanges ds =>
    have start : (s.withDemands ds).ClaimLaw := law
    exact (start.released _).fitted
  | releases p => exact law.released p
  | grantTaken u x =>
    refine State.ClaimLaw.released (s := (s.withMap _).addHoldings .pending _) _ ?_
    exact law
  | peerExpires | peerLeaves | peerPresents => exact State.ClaimLaw.settled _ law
  | restarts => exact .of_none rfl fun h => by cases h
  | leaves => exact .of_none (by simp [State.leaving, State.queueLeave, Outbox.flush, Outbox.empty]) fun _ => .inl rfl
  | lapses | faults =>
    exact .of_none (by simp [State.lapsed, State.faulted, State.dropOut, Outbox.empty])
      fun h => by simp [State.lapsed, State.faulted, State.dropOut, Outbox.claimInFlight, Outbox.empty] at h
  | goesOffline leaving =>
    exact .of_none (by simp [State.left, Outbox.empty])
      fun h => by simp [State.left, Outbox.claimInFlight, Outbox.empty] at h
  | joins ready =>
    have station : s.member.station ≠ .member ∧ s.member.station ≠ .leaving := by
      rcases ready with ⟨h, -⟩ | h <;> simp [h]
    exact .of_none (law.none_waits station.1) fun h => .inr ((law.2 h).resolve_left station.2)
  | becomesMember tm joining =>
    exact .of_none (law.none_waits (by simp [joining])) fun h => .inr ((law.2 h).resolve_left (by simp [joining]))
  | _ => exact law.of_eq (by simp) (by simp) (by simp) (by simp) (by simp)

theorem claimLaw_kept (h : step s = .next t) (law : s.ClaimLaw) : t.ClaimLaw := by
  refine law_kept (Law := State.ClaimLaw) (fun _ _ h => h) (fun s t r law => ?_) (fun _ _ h => h)
    (fun _ _ _ _ h => h) (fun _ _ _ => Change.claimLaw) (fun _ _ h => h) h law
  obtain rfl | ⟨held, p, x, q, -, rfl⟩ := r
  · exact law
  · exact .of_none rfl fun h => by cases h

/-- Settles O59. -/
theorem claimLawIsKept : Obligations.ClaimLawIsKept :=
  fun _ _ law h => claimLaw_kept h law

end Sys2Proof.Machine
end

section
/-!
PROOF. The Outbox, the timers and the silence counts; and with them every law at once.
-/

namespace Sys2Proof.Machine

variable {mark : Option MarkFields} {s t : State}

/-! ### The Outbox -/

theorem State.OutboxLaw.of_eq (h : s.OutboxLaw) (id : t.id = s.id) (outbox : t.outbox = s.outbox)
    (derate : t.sag.derateRemaining ≤ 15) : t.OutboxLaw := by
  obtain ⟨contest, release, claim, inFlight, -⟩ := h
  rw [State.OutboxLaw, id, outbox]
  exact ⟨contest, release, claim, inFlight, derate⟩

theorem State.OutboxLaw.of_empty (outbox : t.outbox = .empty) (derate : t.sag.derateRemaining ≤ 15) :
    t.OutboxLaw := by
  rw [State.OutboxLaw, outbox]
  exact ⟨rfl, rfl, rfl, rfl, derate⟩

/-- A waiting CLAIM that is withdrawn, and slots that go into the waiting RELEASE. -/
theorem State.OutboxLaw.withoutClaim (h : s.OutboxLaw) (x : SlotSet) (id : t.id = s.id)
    (outbox : t.outbox = { s.outbox.queueRelease x with claim := none }) (sag : t.sag = s.sag) : t.OutboxLaw := by
  obtain ⟨contest, release, -, inFlight, derate⟩ := h
  have kept := s.outbox.queueRelease_keeps x release
  rw [(s.outbox.queueRelease_spec x).1] at outbox
  rw [State.OutboxLaw, id, outbox, sag]
  exact ⟨contest, kept, rfl, inFlight, derate⟩

theorem State.OutboxLaw.settled (n : Nat) (h : s.OutboxLaw) : (s.settled n).OutboxLaw := by
  rcases s.settled_cases n with e | ⟨-, e⟩ <;> rw [e]
  · exact h
  · rw [State.quorumDropped_eq]
    exact h.withoutClaim (slotSetOf (s.holdings.map Holding.slot)) (by simp) (by simp) (by simp)

theorem State.OutboxLaw.released (p : SlotIndex → Bool) (h : s.OutboxLaw) : (s.releaseHoldings p).OutboxLaw := by
  obtain ⟨contest, release, claim, inFlight, derate⟩ := h
  have kept := s.outbox.queueRelease_keeps (slotSetOf (s.heldWhere p)) release
  have spec := (s.outbox.queueRelease_spec (slotSetOf (s.heldWhere p))).1
  rw [State.OutboxLaw, State.outbox_releaseHoldings, spec]
  exact ⟨by simpa using contest, kept, claim, by simpa using inFlight, by simpa using derate⟩

/-- A CLAIM fitted to a room names a slot still (R99). -/
theorem State.OutboxLaw.fitted (h : s.OutboxLaw) : s.fitClaim.OutboxLaw := by
  obtain ⟨contest, release, claim, inFlight, derate⟩ := h
  unfold State.fitClaim
  split
  · dsimp only
    split
    · rw [State.withdrawClaim_spec]
      exact ⟨contest, release, rfl, inFlight, derate⟩
    · next room =>
      split
      · next short =>
        refine ⟨contest, release, ?_, inFlight, derate⟩
        have some_pick : s.planner.pickOrder.take (s.headWant - s.heldCount) ≠ [] := by
          rw [Ne, List.take_eq_nil_iff, not_or]
          exact ⟨room, List.ne_nil_of_length_pos (by omega)⟩
        have := mt (slotSetOf_eq_zero_iff _).1 some_pick
        simpa using this
      · exact ⟨contest, release, claim, inFlight, derate⟩
  · exact ⟨contest, release, claim, inFlight, derate⟩

theorem State.not_offline_of_drives (h : s.drives = true) : s.member.station ≠ .offline := by
  intro off
  simp [State.drives, off] at h

/-- A station outside MEMBER announces no slot (R88). -/
theorem State.HoldingLaw.announces_none (h : s.HoldingLaw) {x : SlotSet}
    (hx : ∀ k, slotIn x k = listsLive (s.map.get k) s.id) (station : s.member.station ≠ .member) : x = 0 := by
  refine (slotSet_eq_zero_iff x).2 fun k => ?_
  rw [hx, ← Bool.not_eq_true, ← h.2.1 k, h.2.2 station]
  simp

/-- What is taken into flight is well formed, with the fields of a valid setup (Section 10.1). -/
theorem State.Offers.wellFormed {n : Notice} {o : Outbox} (h : s.Offers n o) (drives : s.drives = true)
    (setup : s.SetupLaw) (held : s.HoldingLaw) (law : s.OutboxLaw) : noticeWellFormed s.id n = true := by
  have valid := (Setup.valid_iff _).1 (setup.valid_cfg (State.not_offline_of_drives drives))
  obtain ⟨contest, release, claim, -, derate⟩ := law
  rcases h with ⟨k, -, -, -, rfl⟩ | ⟨-, -, rfl, -⟩ | ⟨-, -, q, x, e, rfl, -⟩ | ⟨-, -, -, x, e, rfl, -⟩ |
    ⟨-, -, -, -, -, rfl, -⟩ | ⟨-, -, -, -, -, -, -, x, hx, rfl⟩ | ⟨-, -, -, -, -, -, x, e, -, -, rfl⟩
  · simp only [noticeWellFormed, Bool.and_eq_true, decide_eq_true_eq]
    omega
  · rfl
  · simpa [e, noticeWellFormed] using contest
  · simpa [e, noticeWellFormed] using release
  · rfl
  · have holdings : s.member.station ≠ .member → x = 0 := held.announces_none hx
    have units : 1 ≤ s.cfg.load ∧ s.cfg.load < 256 := by omega
    by_cases member : s.member.station = .member <;> simp [noticeWellFormed, units, member, holdings]
  · have units : 1 ≤ s.cfg.load ∧ s.cfg.load < 256 := by omega
    simpa [e, noticeWellFormed, units] using claim

/-- What is left in the Outbox is what was there, less what was taken. -/
theorem State.Offers.law {n : Notice} {o : Outbox} (h : s.Offers n o) (law : s.OutboxLaw) :
    o.contest.all (fun c => c.1 != s.id && c.2 != 0) = true ∧ o.release.all (fun x => x != 0) = true ∧
      o.claim.all (fun x => x != 0) = true := by
  obtain ⟨contest, release, claim, -, -⟩ := law
  rcases h with ⟨k, -, -, rfl, -⟩ | ⟨-, -, -, rfl⟩ | ⟨-, -, q, x, -, -, rfl⟩ | ⟨-, -, -, x, -, -, rfl⟩ |
    ⟨-, -, -, -, -, -, rfl⟩ | ⟨-, -, -, -, -, -, rfl, -⟩ | ⟨-, -, -, -, -, -, x, -, -, rfl, -⟩ <;>
  first
  | exact ⟨contest, release, claim⟩
  | exact ⟨rfl, release, claim⟩
  | exact ⟨contest, rfl, claim⟩
  | exact ⟨contest, release, rfl⟩

theorem Setup.derateHold_le (law : s.SetupLaw) : s.cfg.derateHold ≤ 15 := by
  unfold State.cfg
  cases hs : s.setup with
  | none => exact Nat.zero_le _
  | some r => exact ((Setup.valid_iff r).1 (by simpa [hs] using law.1)).2.2.2.2.2.2.1.2

theorem Change.outboxLaw (h : Change mark s t) (field : ∀ m, mark = some m → m.derate ≤ 15) (setup : s.SetupLaw)
    (held : s.HoldingLaw) (law : s.OutboxLaw) : t.OutboxLaw := by
  have ⟨contestLaw, releaseLaw, claimLaw, inFlight, derate⟩ := law
  cases h with
  | sag x derates =>
    refine law.of_eq rfl rfl ?_
    rcases derates with e | e | e
    · exact e ▸ derate
    · exact e ▸ Setup.derateHold_le setup
    · obtain ⟨m, hm, e⟩ := Option.map_eq_some_iff.1 e
      exact e ▸ field m hm
  | pass n => exact law.of_eq (by simp) (by simp) ((s.pass_spec n).2.2.2.1 ▸ derate)
  | withdrawClaim =>
    refine law.withoutClaim 0 (by simp) ?_ (by simp)
    rw [State.withdrawClaim_spec]
    rfl
  | waiting o rest claim flight contest release =>
    exact ⟨contest contestLaw, release releaseLaw, by simpa [claim] using claimLaw, by simpa [flight] using inFlight, derate⟩
  | flightEnds => exact ⟨contestLaw, releaseLaw, claimLaw, rfl, derate⟩
  | claimEnds => exact ⟨contestLaw, releaseLaw, claimLaw, rfl, derate⟩
  | flies n o drives next =>
    have offers := State.nextNotice_spec.1 next
    obtain ⟨contest, release, claim⟩ := offers.law law
    exact ⟨contest, release, claim, offers.wellFormed drives setup held law, derate⟩
  | plans picks quorate idle some_pick =>
    refine ⟨contestLaw, releaseLaw, ?_, inFlight, derate⟩
    have := mt (slotSetOf_eq_zero_iff _).1 some_pick
    simpa using this
  | headChanges ds =>
    have start : (s.withDemands ds).OutboxLaw := law
    exact (start.released _).fitted
  | releases p => exact law.released p
  | grantTaken u x =>
    refine State.OutboxLaw.released (s := (s.withMap _).addHoldings .pending _) _ ?_
    exact law
  | peerExpires | peerLeaves | peerPresents => exact State.OutboxLaw.settled _ law
  | restarts => exact .of_empty rfl (Nat.zero_le _)
  | leaves =>
    refine ⟨rfl, rfl, rfl, ?_, ?_⟩
    · simpa [State.leaving, State.queueLeave, Outbox.flush] using inFlight
    · simpa [State.leaving, State.queueLeave] using derate
  | lapses | faults | goesOffline =>
    exact .of_empty (by simp [State.lapsed, State.faulted, State.left, State.dropOut])
      (by simp [State.lapsed, State.faulted, State.left, State.dropOut])
  | joins | becomesMember => exact law.of_eq rfl rfl derate
  | _ => exact law.of_eq (by simp) (by simp) (by simpa using derate)

/-! ### The timers (R36, R37) -/

theorem State.timerInRange_congr (setup : t.setup = s.setup) (phase : t.timer.phase = s.timer.phase) :
    t.timerInRange = s.timerInRange := by
  unfold State.timerInRange State.cycleTicks State.slotTicks
  rw [State.cfg_congr setup, phase]

theorem State.foundingTicks_congr (setup : t.setup = s.setup) : t.foundingTicks = s.foundingTicks := by
  unfold State.foundingTicks State.cycleTicks State.slotTicks
  rw [State.cfg_congr setup]

/-- Where the limits and the timer stay. -/
theorem State.TimerLaw.of_eq (h : s.TimerLaw) (setup : t.setup = s.setup) (timer : t.timer = s.timer)
    (station : t.member.station = s.member.station) : t.TimerLaw := by
  rw [State.TimerLaw, State.timerInRange_congr setup (by rw [timer]), State.foundingTicks_congr setup, timer, station]
  exact h

/-- A station that listens may stand in any phase, with its phase time in range. -/
theorem State.TimerLaw.of_founding (founding : t.timer.founding = 0) (range : t.timerInRange = true)
    (rest : t.member.station = .offline ∨ t.member.station = .faulted → t.timer.phase = .unaligned) : t.TimerLaw :=
  ⟨range, founding ▸ Nat.zero_le _, fun _ => founding, rest⟩

theorem State.TimerLaw.of_unaligned (founding : t.timer.founding = 0) (phase : t.timer.phase = .unaligned) :
    t.TimerLaw :=
  .of_founding founding (by rw [State.timerInRange, phase]) fun _ => phase

/-- A new phase at its start leaves the founding timer as it was. -/
theorem State.TimerLaw.phase (h : s.TimerLaw) (setup : t.setup = s.setup)
    (founding : t.timer.founding = s.timer.founding ∨ t.timer.founding = 0)
    (station : t.member.station = s.member.station)
    (phase : t.timerInRange = true) (rest : t.member.station ≠ .offline ∧ t.member.station ≠ .faulted) :
    t.TimerLaw := by
  have ticks := State.foundingTicks_congr setup
  obtain ⟨-, limit, joining, -⟩ := h
  refine ⟨phase, ?_, fun other => ?_, fun r => ?_⟩
  · rcases founding with e | e
    · exact e ▸ ticks ▸ limit
    · exact e ▸ Nat.zero_le _
  · rcases founding with e | e
    · exact e.trans (joining (station ▸ other))
    · exact e
  · exact absurd r (not_or.2 rest)

theorem State.TimerLaw.awake (h : s.TimerLaw) (phase : s.timer.phase ≠ .unaligned) :
    s.member.station ≠ .offline ∧ s.member.station ≠ .faulted :=
  not_or.1 fun r => phase (h.2.2.2 r)

theorem State.TimerLaw.pass (n : Nat) (h : s.TimerLaw) : (s.pass n).TimerLaw := by
  have cfg : (s.pass n).cfg = s.cfg := State.cfg_congr (by simp)
  have station := State.station_pass n s
  obtain ⟨-, limit, joining, rest⟩ := h
  have timer : (s.pass n).timer.phase = (match s.timer.phase with
        | .unaligned => .unaligned
        | .inSlot k t => .inSlot k (runTimer s.slotTicks t n)
        | .inGap t a => .inGap (runTimer s.cycleTicks t n) a) ∧
      (s.pass n).timer.founding = (if s.member.station = .joining then runTimer s.foundingTicks s.timer.founding n
        else s.timer.founding) := ⟨rfl, rfl⟩
  obtain ⟨phase, founding⟩ := timer
  refine ⟨?_, ?_, fun other => ?_, fun r => ?_⟩
  · rw [State.timerInRange, phase]
    cases s.timer.phase with
    | unaligned => rfl
    | inSlot k e => simp [State.slotTicks, cfg, runTimer]
    | inGap e a => simp [State.cycleTicks, State.slotTicks, cfg, runTimer]
  · rw [founding, State.foundingTicks_congr (s := s) (by simp)]
    split
    · exact Nat.min_le_left _ _
    · exact limit
  · rw [station] at other
    rw [founding, if_neg other, joining other]
  · rw [station] at r
    rw [phase, rest r]

theorem Change.timerLaw (h : Change mark s t) (law : s.TimerLaw) : t.TimerLaw := by
  cases h with
  | counts x station => exact law.of_eq rfl rfl station
  | pass n => exact law.pass n
  | planned => exact law
  | slotBegins j k e phase =>
    have awake := law.awake (by simp [phase])
    exact law.phase (by simp) (.inl (by simp)) (by simp) (by simp [State.timerInRange]) (by simpa using awake)
  | gapBegins j e phase =>
    have awake := law.awake (by simp [phase])
    exact law.phase (by simp) (.inl (by simp)) (by simp) (by simp [State.timerInRange]) (by simpa using awake)
  | aligns c listens =>
    refine law.phase rfl ?_ rfl (by simp [State.timerInRange]) ?_
    · show (if s.member.station = .joining then 0 else s.timer.founding) = s.timer.founding ∨ _ = 0
      split
      · exact .inr rfl
      · exact .inl rfl
    · show s.member.station ≠ .offline ∧ s.member.station ≠ .faulted
      constructor <;> intro e <;> simp [State.listens, State.drives, e] at listens
  | restarts => exact .of_unaligned rfl rfl
  | faults => exact .of_unaligned (by simp [State.faulted, CycleTimer.cleared]) (by simp [State.faulted, CycleTimer.cleared])
  | goesOffline => exact .of_unaligned (by simp [State.left, CycleTimer.cleared]) (by simp [State.left, CycleTimer.cleared])
  | joins => exact .of_founding rfl law.1 fun h => by rcases h with h | h <;> cases h
  | becomesMember tm joining founding phase =>
    refine .of_founding founding ?_ fun h => by rcases h with h | h <;> cases h
    rcases phase with e | ⟨a, e⟩
    · exact (State.timerInRange_congr (s := s) (t := s.asMember tm) rfl e).trans law.1
    · rw [State.timerInRange, show (s.asMember tm).timer.phase = .inGap 0 a from e]
      simp
  | leaves =>
    exact .of_founding (by simp [State.leaving, CycleTimer.foundingStopped])
      ((State.timerInRange_congr (by simp [State.leaving, State.queueLeave])
        (by simp [State.leaving, State.queueLeave, CycleTimer.foundingStopped])).trans law.1)
      fun h => by simp [State.leaving, State.queueLeave] at h
  | lapses =>
    exact .of_founding (by simp [State.lapsed, CycleTimer.foundingStopped])
      ((State.timerInRange_congr (by simp [State.lapsed])
        (by simp [State.lapsed, CycleTimer.foundingStopped])).trans law.1)
      fun h => by simp [State.lapsed] at h
  | _ => exact law.of_eq (by simp) (by simp) (by simp)

theorem timerLaw_kept (h : step s = .next t) (law : s.TimerLaw) : t.TimerLaw := by
  refine law_kept (Law := State.TimerLaw) (fun _ _ h => h) (fun s t r law => ?_) (fun _ _ h => h)
    (fun s r _ off law => .of_unaligned (law.2.2.1 (by simp [off])) (law.2.2.2 (.inl off)))
    (fun _ _ _ => Change.timerLaw) (fun _ _ h => h) h law
  obtain rfl | ⟨held, p, x, q, -, rfl⟩ := r
  · exact law
  · exact .of_unaligned rfl rfl

/-! ### Silence (R50, R51) -/

theorem State.SilenceLaw.of_eq (h : s.SilenceLaw) (setup : t.setup = s.setup)
    (station : t.member.station = s.member.station)
    (peers : ∀ p, (t.peers.get p).silence ≤ (s.peers.get p).silence) : t.SilenceLaw := by
  intro drives p
  rw [State.drives_congr station] at drives
  rw [State.cfg_congr setup]
  exact (peers p).trans_lt (h drives p)

theorem State.SilenceLaw.of_rest (h : t.drives = false) : t.SilenceLaw := fun d => by simp [h] at d

theorem silence_set_le {peers : PeerTable} {e : PeerEntry} {p : StationId}
    (h : e.silence ≤ (peers.get p).silence) (q : StationId) :
    ((Table.set peers p e).get q).silence ≤ (peers.get q).silence := by
  rw [Table.get_set]
  split
  · next e => exact e ▸ h
  · exact le_rfl

theorem State.SilenceLaw.settled (n : Nat) (h : s.SilenceLaw) : (s.settled n).SilenceLaw :=
  h.of_eq (by simp) (by simp) (by simp)

theorem Change.silenceLaw (h : Change mark s t) (setup : s.SetupLaw) (rest : s.TablesRest) (law : s.SilenceLaw) :
    t.SilenceLaw := by
  cases h with
  | counts x station => exact law.of_eq rfl station fun _ => le_rfl
  | pass n => exact law.of_eq (by simp) (State.station_pass n s) (by simp)
  | peerPriority p q | peerOrphaned p => exact law.of_eq rfl rfl (silence_set_le (by simp))
  | peerExpires p | peerPresents p f => exact .settled _ (law.of_eq rfl rfl (silence_set_le (by simp)))
  | peerLeaves p =>
    refine .settled _ (law.of_eq rfl rfl (silence_set_le ?_))
    unfold PeerEntry.left
    dsimp only
    split
    · exact Nat.zero_le _
    · exact le_rfl
  | joins ready =>
    intro _ p
    have off : s.drives = false := by rcases ready with ⟨h, -⟩ | h <;> simp [State.drives, h]
    have silent : (s.joining.peers.get p).silence = 0 := by
      simp [State.joining, (rest off).2, PeerTable.cleared, PeerEntry.cleared]
    have valid : s.cfg.valid = true := by
      rcases ready with ⟨-, held⟩ | h
      · obtain ⟨r, hr⟩ := Option.isSome_iff_exists.1 held
        simpa [State.cfg, hr] using setup.1
      · exact setup.valid_cfg (by simp [h])
    have := Setup.three_le_expiry valid
    rw [silent]
    show 0 < s.cfg.expiry
    omega
  | becomesMember tm joining => exact fun _ => law (by simp [State.drives, joining])
  | leaves on =>
    intro _ p
    have := law (State.drives_of_onLine on) p
    simpa [State.leaving, State.queueLeave, State.cfg] using this
  | restarts => exact .of_rest rfl
  | goesOffline | lapses | faults => exact .of_rest (by simp [State.drives, State.left, State.lapsed, State.faulted])
  | _ => exact law.of_eq (by simp) (by simp) (by simp)

/-- An entry whose count has reached E, dealt with (R50, R51). -/
def PeerEntry.expired (expiry : Nat) (e : PeerEntry) : PeerEntry :=
  if expiry ≤ e.silence then { e with live := false, silence := 0 } else e

theorem PeerEntry.silence_expired {n : Nat} (h : 0 < n) (e : PeerEntry) : (e.expired n).silence < n := by
  unfold PeerEntry.expired
  split
  · exact h
  · next h => exact not_le.1 h

theorem PeerEntry.expired_expired {n : Nat} (h : 0 < n) (e : PeerEntry) : (e.expired n).expired n = e.expired n :=
  if_neg (not_le.2 (e.silence_expired h))

/-- Expiry and the orphaning of an ABSENT peer deal with one entry (R50, R51). -/
theorem State.peers_dealtWith (p : StationId) (on : s.onLine = true) (positive : 0 < s.cfg.expiry) :
    ((s.expirePeer p).orphanAbsent p).peers =
      if p = s.id then s.peers else s.peers.set p ((s.peers.get p).expired s.cfg.expiry) := by
  have frame := s.expirePeer_frame p
  have on' : (s.expirePeer p).onLine = true := by simpa [State.onLine] using on
  have cfg : (s.expirePeer p).cfg = s.cfg := State.cfg_congr (by simp)
  have expires : (s.expirePeer p).peers = if p ≠ s.id ∧ (s.peers.get p).live = true ∧
      s.cfg.expiry ≤ (s.peers.get p).silence then
        s.peers.set p { s.peers.get p with live := false, silence := 0 } else s.peers := by
    simp only [State.expirePeer, on, true_and]
    split <;> simp
  have orphans : ((s.expirePeer p).orphanAbsent p).peers = if p ≠ s.id ∧ ((s.expirePeer p).peers.get p).live = false ∧
      s.cfg.expiry ≤ ((s.expirePeer p).peers.get p).silence then
        (s.expirePeer p).peers.set p { (s.expirePeer p).peers.get p with silence := 0 } else (s.expirePeer p).peers := by
    simp only [State.orphanAbsent, on', true_and, cfg, frame.2.2.1]
    split <;> simp
  rw [orphans, expires]
  by_cases own : p = s.id
  · simp [own]
  · by_cases late : s.cfg.expiry ≤ (s.peers.get p).silence
    · by_cases live : (s.peers.get p).live = true
      · simp [own, late, live, PeerEntry.expired, positive.ne']
      · rw [Bool.not_eq_true] at live
        simp [own, late, live, PeerEntry.expired]
    · simp [own, late, PeerEntry.expired]

/-- Every peer is dealt with, in whatever order (R50, R51). -/
theorem State.peers_dealtWith_all (ps : List StationId) (on : s.onLine = true) (positive : 0 < s.cfg.expiry)
    (q : StationId) : (ps.foldl (fun s p => (s.expirePeer p).orphanAbsent p) s).peers.get q =
      if q ∈ ps ∧ q ≠ s.id then (s.peers.get q).expired s.cfg.expiry else s.peers.get q := by
  induction ps generalizing s with
  | nil => simp
  | cons p ps ih =>
    have on' : ((s.expirePeer p).orphanAbsent p).onLine = true := by simpa [State.onLine] using on
    have cfg : ((s.expirePeer p).orphanAbsent p).cfg = s.cfg := State.cfg_congr (by simp)
    have id : ((s.expirePeer p).orphanAbsent p).id = s.id := by simp
    have entry : ((s.expirePeer p).orphanAbsent p).peers.get q =
        if q = p ∧ q ≠ s.id then (s.peers.get q).expired s.cfg.expiry else s.peers.get q := by
      rw [State.peers_dealtWith p on positive]
      by_cases own : p = s.id
      · grind
      · rw [if_neg own, Table.get_set]
        grind
    rw [List.foldl_cons, ih on' (cfg ▸ positive), cfg, id, entry]
    have := PeerEntry.expired_expired positive (s.peers.get q)
    grind

/-- The Peer Table after the silence counts: each counted peer has one mark more, and goes where that makes E
(R50, R51). -/
theorem State.peers_silencePart (on : s.onLine = true) (positive : 0 < s.cfg.expiry) (q : StationId) :
    s.silencePart.peers.get q =
      if q = s.id then s.peers.get q
      else if (s.peers.get q).live || s.map.anyLive q then
        { s.peers.get q with silence := (s.peers.get q).silence + 1 }.expired s.cfg.expiry
      else (s.peers.get q).expired s.cfg.expiry := by
  unfold State.silencePart
  rw [if_pos on, State.peers_dealtWith_all (s := s.raiseSilence) allStations on positive q]
  have id : s.raiseSilence.id = s.id := rfl
  have cfg : s.raiseSilence.cfg = s.cfg := rfl
  have raised : s.raiseSilence.peers.get q = if q = s.id then s.peers.get q
      else if (s.peers.get q).live || s.map.anyLive q then
        { s.peers.get q with silence := (s.peers.get q).silence + 1 }
      else s.peers.get q := by simp [State.raiseSilence]
  rw [raised, id, cfg]
  by_cases own : q = s.id
  · simp [own]
  · simp only [mem_allStations, own, ne_eq, not_false_eq_true, and_self, if_true, if_false]
    split <;> rfl

theorem State.silencePart_frame (s : State) : s.silencePart.pending = s.pending ∧ s.silencePart.rstn = s.rstn ∧
    s.silencePart.id = s.id ∧ s.silencePart.setup = s.setup ∧ s.silencePart.line = s.line ∧
    s.silencePart.timer = s.timer ∧ s.silencePart.member = s.member ∧ s.silencePart.sag = s.sag ∧
    s.silencePart.port = s.port ∧ s.silencePart.snap = s.snap := by
  have fold (ps : List StationId) (u : State) :
      let v := ps.foldl (fun s p => (s.expirePeer p).orphanAbsent p) u
      v.pending = u.pending ∧ v.rstn = u.rstn ∧ v.id = u.id ∧ v.setup = u.setup ∧ v.line = u.line ∧
      v.timer = u.timer ∧ v.member = u.member ∧ v.sag = u.sag ∧ v.port = u.port ∧ v.snap = u.snap := by
    induction ps generalizing u with
    | nil => simp
    | cons p ps ih => simpa using ih ((u.expirePeer p).orphanAbsent p)
  unfold State.silencePart
  split
  · exact fold allStations s.raiseSilence
  · simp

theorem State.SilenceLaw.silencePart (h : s.SilenceLaw) : s.silencePart.SilenceLaw := by
  by_cases on : s.onLine = true
  · have drives := State.drives_of_onLine on
    have positive : 0 < s.cfg.expiry := Nat.zero_lt_of_lt (h drives 0)
    have cfg : s.silencePart.cfg = s.cfg := State.cfg_congr s.silencePart_frame.2.2.2.1
    intro _ p
    rw [State.peers_silencePart on positive, cfg]
    split
    · exact h drives p
    · split <;> exact PeerEntry.silence_expired positive _
  · rwa [State.silencePart, if_neg on]

/-- A mark keeps what its changes and its silence counts keep. -/
theorem State.applyMark_keeps {Law : State → Prop} {m : MarkFields}
    (change : ∀ s t, Change (some m) s t → Law s → Law t) (silence : ∀ s, Law s → Law s.silencePart)
    (dup : Bool) (order : List MarkPart) (h : s.listens = true) (law : Law s) : Law (s.applyMark m dup order) := by
  have fold (parts : List MarkPart) (was : StationState) (wasAligned : Bool) (u : State) (law : Law u) :
      Law (parts.foldl (fun s p => s.markPart m dup was wasAligned p) u) := by
    induction parts generalizing u with
    | nil => exact law
    | cons p ps ih =>
      refine ih _ ?_
      by_cases hp : p = .silence
      · subst hp
        unfold State.markPart
        split
        · exact law
        · exact silence u law
      · exact (u.markPart_changes m dup was wasAligned hp).keeps change law
  have listens : s.truncate.listens = true := by
    unfold State.listens State.drives at h ⊢
    rwa [State.station_truncate]
  exact fold _ _ _ _ ((State.align_changes m.cycle listens).keeps change (s.truncate_changes.keeps change law))

theorem execMarkComplete_keeps {Law : State → Prop} {p : StationId} {m : MarkFields} {order : List MarkPart}
    (change : ∀ s t, Change (some m) s t → Law s → Law t) (silence : ∀ s, Law s → Law s.silencePart)
    (h : execMarkComplete p m order s = .next t) (law : Law s) : Law t := by
  cases h
  unfold State.unlessHeld
  split
  · exact law
  unfold State.markCompletes
  rcases s.landing_cases p (.mark m) with e | ⟨l, -, -, -, e⟩ | ⟨l, -, -, -, -, e⟩ | ⟨l, -, -, -, e⟩ <;> simp only [e]
  · exact law
  · exact State.applyMark_keeps change silence _ _ l (s.afterSent_changes.keeps change law)
  all_goals exact State.applyMark_keeps change silence _ _ l (s.afterHeard_changes.keeps change law)

theorem State.TablesRest.silencePart (h : s.TablesRest) : s.silencePart.TablesRest := by
  by_cases on : s.onLine = true
  · exact .of_onLine on (congrArg Membership.station s.silencePart_frame.2.2.2.2.2.2.1)
  · rwa [State.silencePart, if_neg on]

theorem State.SetupLaw.silencePart (h : s.SetupLaw) : s.silencePart.SetupLaw := by
  obtain ⟨-, -, -, setup, -, -, member, -⟩ := s.silencePart_frame
  rwa [State.SetupLaw, setup, member]

/-- Silence, with the laws that a station's entry to JOINING leans on. -/
theorem silenceLaw_kept (h : step s = .next t) (setup : s.SetupLaw) (rest : s.TablesRest) (law : s.SilenceLaw) :
    t.SilenceLaw := by
  have change {mark} : ∀ s t, Change mark s t → s.SetupLaw ∧ s.TablesRest ∧ s.SilenceLaw →
      t.SetupLaw ∧ t.TablesRest ∧ t.SilenceLaw :=
    fun _ _ c ⟨setup, rest, law⟩ => ⟨c.setupLaw setup, c.tablesRest rest, c.silenceLaw setup rest law⟩
  have all : s.SetupLaw ∧ s.TablesRest ∧ s.SilenceLaw := ⟨setup, rest, law⟩
  rcases step_cases h with rfl | ⟨q, r | r | r | ⟨p, m, order, hm⟩⟩
  · exact (change (mark := none) _ _ (.pass 1) all).2.2
  · obtain rfl | ⟨held, p, x, q, -, rfl⟩ := r
    · exact law
    · exact .of_rest rfl
  · obtain ⟨x, rfl | ⟨r, -, off, rfl⟩⟩ := r
    · exact law
    · have off : s.member.station = .offline := off
      exact .of_rest (by simp [State.drives, State.acceptSetup, off])
  · exact (r.keeps change all).2.2
  · exact (execMarkComplete_keeps change
      (fun _ ⟨setup, rest, law⟩ => ⟨setup.silencePart, rest.silencePart, law.silencePart⟩) hm all).2.2

/-! ### Every law at once -/

theorem outboxLaw_kept (h : step s = .next t) (setup : s.SetupLaw) (held : s.HoldingLaw) (law : s.OutboxLaw) :
    t.OutboxLaw := by
  have change {mark : Option MarkFields} (field : ∀ m, mark = some m → m.derate ≤ 15) :
      ∀ s t, Change mark s t → s.SetupLaw ∧ s.HoldingLaw ∧ s.OutboxLaw → t.SetupLaw ∧ t.HoldingLaw ∧ t.OutboxLaw :=
    fun _ _ c ⟨setup, held, law⟩ => ⟨c.setupLaw setup, c.holdingLaw held, c.outboxLaw field setup held law⟩
  have all : s.SetupLaw ∧ s.HoldingLaw ∧ s.OutboxLaw := ⟨setup, held, law⟩
  rcases step_cases h with rfl | ⟨q, r | r | r | ⟨p, m, order, hm⟩⟩
  · exact (change (mark := none) (fun _ h => by cases h) _ _ (.pass 1) all).2.2
  · obtain rfl | ⟨held, p, x, q, -, rfl⟩ := r
    · exact law
    · exact .of_empty rfl (Nat.zero_le _)
  · obtain ⟨x, rfl | ⟨r, -, off, rfl⟩⟩ := r
    · exact law
    · obtain ⟨contest, release, claim, inFlight, -⟩ := law
      exact ⟨contest, release, claim, inFlight, Nat.zero_le _⟩
  · exact (r.keeps (change fun _ h => by cases h) all).2.2
  · obtain ⟨u, hu, r, fair⟩ := execMarkComplete_changes p m order (s.withPending q)
    cases hm.symm.trans hu
    rcases fair with rfl | fair
    · exact law
    · have field : ∀ n, some m = some n → n.derate ≤ 15 := fun n e => by
        cases e
        exact (fair law).trans (by decide)
      exact (r.keeps (change field) (fun _ _ h => h) all).2.2

/-- Settles O60: every law is kept by a step, each from itself and the few that it leans on. -/
theorem everyStepIsSafe : Obligations.EveryStepIsSafe := fun _ _ safe h =>
  have tables := fun d => ⟨(safe.rest d).1, (safe.rest d).2.1⟩
  { setup := setupLaw_kept h safe.setup
    rest := restLaw_kept h safe.holdings safe.rest
    budget := budgetLaw_kept h safe.setup tables safe.budget
    holderLists := holderListLaw_kept h safe.holderLists
    orphans := orphanLaw_kept h safe.orphans
    holdings := holdingLaw_kept h safe.holdings
    heldAmount := heldAmountLaw_kept h safe.heldAmount
    demands := demandLaw_kept h safe.demands
    served := servedLaw_kept h safe.served
    standing := standingLaw_kept h safe.setup safe.standing
    output := outputLaw_kept h safe.output
    drive := driveLaw_kept h safe.drive
    closing := closingLaw_kept h safe.closing
    lineRanges := lineRanges_kept h safe.lineRanges
    claims := claimLaw_kept h safe.claims
    outbox := outboxLaw_kept h safe.setup safe.holdings safe.outbox
    timer := timerLaw_kept h safe.timer
    silence := silenceLaw_kept h safe.setup tables safe.silence
    notes := noteLaw_kept h safe.notes }

end Sys2Proof.Machine
end

section
/-!
PROOF. The machine and its reset: the front command, time on an empty queue, what every command leaves alone, and the
power-on condition.
-/

namespace Sys2Proof.Machine

variable {mark : Option MarkFields} {s t : State}

/-- Settles O1: `step` reads the queue and puts its rest back. -/
theorem stepTakesTheFrontCommand : Obligations.StepTakesTheFrontCommand := fun _ _ _ => rfl

/-! ### Time -/

/-- Settles O2: the fields are those of `State.pass` itself, the limits those of the setup in oscillator periods. -/
theorem timePassesOnAnEmptyQueue : Obligations.TimePassesOnAnEmptyQueue := by
  refine ⟨fun s h => by simp [step, h], fun s => ⟨rfl, rfl, rfl, rfl, rfl, rfl, rfl, rfl⟩, fun n s => ?_⟩
  refine ⟨(s.pass n).timer, (s.pass n).member, (s.pass n).sag, (s.pass n).line, rfl, ?_, ?_, ?_, rfl, rfl, ?_, ?_, rfl,
    rfl, rfl, rfl, ?_⟩
  · intro h
    simp [State.pass, h]
  · intro k e h
    simp [State.pass, h, runTimer]
  · intro e a h
    simp [State.pass, h, runTimer]
  · simp [State.pass, State.setupValid, runTimer]
  · simp [State.pass, runTimer]
  · simp [State.pass, beq_eq_decide]

/-! ### What every command leaves alone -/

theorem Changes.frame (h : Changes mark s t) :
    t.pending = s.pending ∧ t.rstn = s.rstn ∧ t.id = s.id ∧ t.setup = s.setup :=
  h.keeps (Law := fun t => t.pending = s.pending ∧ t.rstn = s.rstn ∧ t.id = s.id ∧ t.setup = s.setup)
    (fun _ _ c ⟨pending, rstn, id, setup⟩ =>
      have f := c.frame
      ⟨f.1.trans pending, f.2.1.trans rstn, f.2.2.1.trans id, f.2.2.2.trans setup⟩) ⟨rfl, rfl, rfl, rfl⟩

theorem MarkChanges.frame {m : MarkFields} (h : MarkChanges m s t) :
    t.pending = s.pending ∧ t.rstn = s.rstn ∧ t.id = s.id ∧ t.setup = s.setup :=
  h.keeps (Law := fun t => t.pending = s.pending ∧ t.rstn = s.rstn ∧ t.id = s.id ∧ t.setup = s.setup)
    (fun _ _ c ⟨pending, rstn, id, setup⟩ =>
      have f := c.frame
      ⟨f.1.trans pending, f.2.1.trans rstn, f.2.2.1.trans id, f.2.2.2.trans setup⟩) (fun _ _ h => h)
    ⟨rfl, rfl, rfl, rfl⟩

theorem State.SetsUp.frame (h : s.SetsUp t) : t.pending = s.pending ∧ t.rstn = s.rstn ∧ t.id = s.id := by
  obtain ⟨x, rfl | ⟨r, -, -, rfl⟩⟩ := h <;> exact ⟨rfl, rfl, rfl⟩

theorem State.Resets.pending (h : s.Resets t) : t.pending = s.pending := by
  obtain rfl | ⟨held, p, x, q, -, rfl⟩ := h <;> rfl

/-- Settles O3: by the runs of changes that the commands are. -/
theorem everyCommandAnswersNext : Obligations.EveryCommandAnswersNext := by
  intro c s
  by_cases reset : isResetCommand c = true
  · obtain ⟨t, h, r⟩ := exec_reset reset s
    refine ⟨t, h, r.pending, fun power negated => ?_⟩
    cases c with
    | powerOn pins => exact absurd rfl (power pins)
    | rstnNegated pins => exact absurd rfl (negated pins)
    | rstnAsserted =>
      cases h
      exact ⟨rfl, fun not => absurd rfl not⟩
    | _ => cases reset
  by_cases setup : ∃ f, c = .setup f
  · obtain ⟨f, rfl⟩ := setup
    obtain ⟨t, h, r⟩ := exec_setup f s
    obtain ⟨pending, rstn, id⟩ := r.frame
    exact ⟨t, h, pending, fun _ _ => ⟨id, fun _ => ⟨rstn, fun not => absurd rfl (not f)⟩⟩⟩
  suffices ∃ t, exec c s = .next t ∧ t.pending = s.pending ∧ t.rstn = s.rstn ∧ t.id = s.id ∧ t.setup = s.setup by
    obtain ⟨t, h, pending, rstn, id, setup⟩ := this
    exact ⟨t, h, pending, fun _ _ => ⟨id, fun _ => ⟨rstn, fun _ => setup⟩⟩⟩
  by_cases marks : ∃ p m order, c = .markComplete p m order
  · obtain ⟨p, m, order, rfl⟩ := marks
    obtain ⟨t, h, r, -⟩ := execMarkComplete_changes p m order s
    exact ⟨t, h, r.frame⟩
  · obtain ⟨t, h, r⟩ := exec_changes c s (by simpa using reset) (fun f e => setup ⟨f, e⟩)
      fun p m order e => marks ⟨p, m, order, e⟩
    exact ⟨t, h, r.frame⟩

/-! ### Reset -/

/-- Settles O4: after reset every collection is empty, the station is OFFLINE, and no timer runs. -/
theorem resetIsSafe : Obligations.ResetIsSafe where
  setup := ⟨rfl, fun h => absurd rfl h⟩
  rest := fun _ => ⟨rfl, rfl, rfl⟩
  budget := .of_cleared rfl
  holderLists := (State.holderListLaw_iff _).2 (.of_cleared rfl)
  orphans := .of_cleared rfl rfl
  holdings := .of_cleared rfl rfl
  heldAmount := .of_none rfl
  demands := .of_nil rfl
  served := .of_cleared (ds := []) rfl
  standing := .of_other fun h => by cases h
  output := .of_idle rfl
  drive := fun h => by cases h
  closing := fun h => by cases h
  lineRanges := ⟨Nat.zero_le _, Nat.zero_le _, Nat.zero_le _, Nat.zero_le _⟩
  claims := .of_none rfl fun h => by cases h
  outbox := .of_empty rfl (Nat.zero_le _)
  timer := .of_unaligned rfl rfl
  silence := .of_rest rfl
  notes := Nat.le_of_ble_eq_true rfl

/-- Settles O5: the reset commands set the fields one by one. -/
theorem resetCommandsGiveThePowerOnCondition : Obligations.ResetCommandsGiveThePowerOnCondition := by
  intro pins s fresh held started
  have power : s.powerUp pins = if s.rstn then held else started := by
    obtain ⟨_, rstn, _⟩ := s
    cases rstn <;> rfl
  have release : s.releaseReset pins = if s.rstn then started else s := by
    obtain ⟨_, rstn, _⟩ := s
    cases rstn <;> rfl
  exact ⟨congrArg Host.Outcome.next power, rfl, congrArg Host.Outcome.next release⟩

theorem State.unlessHeld_of_held (f : State → State) (h : s.rstn = true) : s.unlessHeld f = s := if_pos h

theorem State.unlessHeld_of_negated (f : State → State) (h : s.rstn = false) : s.unlessHeld f = f s := by
  simp [State.unlessHeld, h]

theorem State.transaction_of_held (row : Instr) (f : HostFrame) (judged : State → State) (h : s.rstn = true) :
    s.transaction row f judged = s := State.unlessHeld_of_held _ h

theorem State.command_of_held (row : Instr) (code : Byte) (n : Nat) (f : HostFrame) (run : State → State)
    (h : s.rstn = true) : s.command row code n f run = s := State.transaction_of_held _ _ _ h

/-- Settles O6: every other command is taken by `unlessHeld`. -/
theorem assertedResetHoldsTheStation : Obligations.AssertedResetHoldsTheStation := by
  intro c s held power asserted negated sagin
  cases c with
  | powerOn pins => exact absurd rfl (power pins)
  | rstnAsserted => exact absurd rfl asserted
  | rstnNegated pins => exact absurd rfl (negated pins)
  | saginChange b => exact absurd rfl (sagin b)
  | nop | setup | enter | leave | restart | demandAppend | demandReplace | withdraw | status | nextNote | snap | snapRead
  | peersRead | queueRead => exact congrArg Host.Outcome.next (State.command_of_held _ _ _ _ _ held)
  | unknownCommandCode => exact congrArg Host.Outcome.next (State.transaction_of_held _ _ _ held)
  | _ => exact congrArg Host.Outcome.next (State.unlessHeld_of_held _ held)

end Sys2Proof.Machine
end

section
/-!
PROOF. The host commands of Sections 4, 5 and 9: which frames are refused, what each command does in the state that
takes it, and what it answers.
-/

namespace Sys2Proof.Machine

variable {s : State} {f : HostFrame}

/-! ### Frames -/

theorem byteOfBits_msb (b : Byte) : byteOfBits (b.getMsbD 0) (b.getMsbD 1) (b.getMsbD 2) (b.getMsbD 3) (b.getMsbD 4)
    (b.getMsbD 5) (b.getMsbD 6) (b.getMsbD 7) = b := by
  revert b
  decide

theorem wholeBytes_of_short {bits : List Bool} (h : bits.length < 8) : wholeBytes bits = [] := by
  unfold wholeBytes
  split
  · simp only [List.length_cons] at h
    omega
  · rfl

/-- The bits of bytes, most significant first, make those bytes, whatever bits short of a byte follow (R148, R150). -/
theorem wholeBytes_flatMap (bytes : List Byte) (further : List Bool) (h : further.length < 8) :
    wholeBytes (bytes.flatMap (fun b => (List.range 8).map b.getMsbD) ++ further) = bytes := by
  induction bytes with
  | nil => exact wholeBytes_of_short h
  | cons b bytes ih =>
    have bits : (List.range 8).map b.getMsbD = [b.getMsbD 0, b.getMsbD 1, b.getMsbD 2, b.getMsbD 3, b.getMsbD 4,
      b.getMsbD 5, b.getMsbD 6, b.getMsbD 7] := rfl
    rw [List.flatMap_cons, bits]
    simp only [List.cons_append, List.nil_append]
    rw [wholeBytes, ih, byteOfBits_msb]

/-- A code above those of Table 10-7 names the row of unknown codes, and no other code does. -/
theorem commandOf_unknown_iff (code : Byte) :
    commandOf f = some (.unknownCommandCode code f) ↔ f.code = some code ∧ 13 < code.toNat := by
  unfold commandOf
  cases hc : f.code with
  | none => simp
  | some c =>
    simp only [Option.map_some, Option.some.injEq]
    constructor
    · intro h
      split at h <;> simp_all
      omega
    · rintro ⟨rfl, h⟩
      split <;> simp_all

theorem badFrame_of_not_fits {code : Byte} {n : Nat} (hc : f.bytes.head? = some code) (h : ¬ Fits f code n) :
    badFrame n f = true := by
  by_contra fine
  simp only [badFrame, HostFrame.ragged, HostFrame.fields, Bool.not_eq_true, Bool.or_eq_false_iff, List.any_eq_false,
    bne_eq_false_iff_eq] at fine
  obtain ⟨⟨long, whole⟩, zero⟩ := fine
  exact h ⟨whole, hc, by simpa using long, fun b hb => by simpa using zero b hb⟩

/-! ### The end of a transaction -/

/-- Every row of Table 10-7 judges its frame and runs its command. -/
theorem exec_row (row : Instr × Byte × Nat) (h : row ∈ hostCommands f) (s : State) :
    ∃ run, exec row.1 s = .next (s.command row.1 row.2.1 row.2.2 f run) := by
  simp only [hostCommands, List.mem_cons, List.not_mem_nil, or_false] at h
  rcases h with rfl | rfl | rfl | rfl | rfl | rfl | rfl | rfl | rfl | rfl | rfl | rfl | rfl | rfl <;> exact ⟨_, rfl⟩

theorem State.transaction_of_abandoned (row : Instr) (judged : State → State) (h : s.rstn = false)
    (ha : s.port.abandoned = true) :
    s.transaction row f judged = s.withPort { s.port with abandoned := false } := by
  simp [State.transaction, State.unlessHeld, h, ha]

theorem State.transaction_of_other (row : Instr) (judged : State → State) (hs : s.Ready)
    (h : commandOf f ≠ some row) : s.transaction row f judged = s := by
  simp [State.transaction, State.unlessHeld, hs.1, hs.2, h]

theorem exec_row_of_fits {row : Instr × Byte × Nat} {run : State → State} (hs : s.Ready) (hr : row ∈ hostCommands f)
    (hf : Fits f row.2.1 row.2.2) (h : exec row.1 s = .next (s.command row.1 row.2.1 row.2.2 f run)) :
    exec row.1 s = .next (run s) :=
  h.trans (congrArg Host.Outcome.next (State.command_of_fits run hs hr hf))

theorem exec_setup_of_fits (hs : s.Ready) (hf : Fits f 0x01 12) : exec (.setup f) s = .next (s.setupCommand f) :=
  exec_row_of_fits (row := (.setup f, 0x01, 12)) hs (by simp [hostCommands]) hf rfl

theorem exec_enter_of_fits (hs : s.Ready) (hf : Fits f 0x02 0) : exec (.enter f) s = .next s.enterCommand :=
  exec_row_of_fits (row := (.enter f, 0x02, 0)) hs (by simp [hostCommands]) hf rfl

theorem exec_leave_of_fits (hs : s.Ready) (hf : Fits f 0x03 0) : exec (.leave f) s = .next s.leaveCommand :=
  exec_row_of_fits (row := (.leave f, 0x03, 0)) hs (by simp [hostCommands]) hf rfl

theorem exec_restart_of_fits (hs : s.Ready) (hf : Fits f 0x04 0) :
    exec (.restart f) s = .next (s.restart.respond 0x04 .ok []) :=
  exec_row_of_fits (row := (.restart f, 0x04, 0)) hs (by simp [hostCommands]) hf rfl

theorem exec_demandAppend_of_fits (hs : s.Ready) (hf : Fits f 0x05 7) :
    exec (.demandAppend f) s = .next (s.appendCommand f) :=
  exec_row_of_fits (row := (.demandAppend f, 0x05, 7)) hs (by simp [hostCommands]) hf rfl

theorem exec_demandReplace_of_fits (hs : s.Ready) (hf : Fits f 0x06 7) :
    exec (.demandReplace f) s = .next (s.replaceCommand f) :=
  exec_row_of_fits (row := (.demandReplace f, 0x06, 7)) hs (by simp [hostCommands]) hf rfl

theorem exec_withdraw_of_fits (hs : s.Ready) (hf : Fits f 0x07 1) :
    exec (.withdraw f) s = .next (s.withdrawCommand f) :=
  exec_row_of_fits (row := (.withdraw f, 0x07, 1)) hs (by simp [hostCommands]) hf rfl

theorem exec_nextNote_of_fits (hs : s.Ready) (hf : Fits f 0x09 0) : exec (.nextNote f) s = .next s.nextNoteCommand :=
  exec_row_of_fits (row := (.nextNote f, 0x09, 0)) hs (by simp [hostCommands]) hf rfl

theorem exec_snap_of_fits (hs : s.Ready) (hf : Fits f 0x0A 0) : exec (.snap f) s = .next s.snapCommand :=
  exec_row_of_fits (row := (.snap f, 0x0A, 0)) hs (by simp [hostCommands]) hf rfl

theorem exec_snapRead_of_fits (hs : s.Ready) (hf : Fits f 0x0B 1) :
    exec (.snapRead f) s = .next (s.snapReadCommand (fieldNat f 0)) :=
  exec_row_of_fits (row := (.snapRead f, 0x0B, 1)) hs (by simp [hostCommands]) hf rfl

theorem exec_peersRead_of_fits (hs : s.Ready) (hf : Fits f 0x0C 1) :
    exec (.peersRead f) s = .next (s.peersReadCommand (fieldNat f 0)) :=
  exec_row_of_fits (row := (.peersRead f, 0x0C, 1)) hs (by simp [hostCommands]) hf rfl

theorem exec_queueRead_of_fits (hs : s.Ready) (hf : Fits f 0x0D 0) :
    exec (.queueRead f) s = .next (s.respond 0x0D .ok s.queueData) :=
  exec_row_of_fits (row := (.queueRead f, 0x0D, 0)) hs (by simp [hostCommands]) hf rfl

/-- A command refused for the station state (Table 9-2). -/
theorem exec_wrongState (hs : s.Ready) :
    (Fits f 0x01 12 → s.member.station ≠ .offline → exec (.setup f) s = .next (s.respond 0x01 .wrongState [])) ∧
    (Fits f 0x02 0 → s.member.station ≠ .offline → exec (.enter f) s = .next (s.respond 0x02 .wrongState [])) ∧
    (s.member.station ≠ .joining → s.member.station ≠ .member →
      (Fits f 0x03 0 → exec (.leave f) s = .next (s.respond 0x03 .wrongState [])) ∧
      (Fits f 0x0A 0 → exec (.snap f) s = .next (s.respond 0x0A .wrongState []))) ∧
    (s.member.station = .faulted →
      (Fits f 0x05 7 → exec (.demandAppend f) s = .next (s.respond 0x05 .wrongState [])) ∧
      (Fits f 0x06 7 → exec (.demandReplace f) s = .next (s.respond 0x06 .wrongState []))) := by
  refine ⟨fun fits off => ?_, fun fits off => ?_, fun joining member => ?_, fun faulted => ⟨fun fits => ?_, fun fits => ?_⟩⟩
  · rw [exec_setup_of_fits hs fits, State.setupCommand, if_neg off]
  · rw [exec_enter_of_fits hs fits, State.enterCommand, if_neg off]
  · have off : ¬ s.onLine = true := fun on => (s.onLine_iff.1 on).elim joining member
    exact ⟨fun fits => by rw [exec_leave_of_fits hs fits, State.leaveCommand, if_neg off],
      fun fits => by rw [exec_snap_of_fits hs fits, State.snapCommand, if_neg off]⟩
  · rw [exec_demandAppend_of_fits hs fits, State.appendCommand, if_pos faulted]
  · rw [exec_demandReplace_of_fits hs fits, State.replaceCommand, if_pos faulted]

/-- Settles O7: by what the rise of CSN can do, and the state tests of the commands. -/
theorem refusedFramesChangeNothingElse : Obligations.RefusedFramesChangeNothingElse := by
  refine ⟨wholeBytes_flatMap, fun f s negated => ⟨?_, ?_, ?_, fun taken => exec_wrongState ⟨negated, taken⟩⟩⟩
  · intro none
    simp [commandOf, HostFrame.code, none]
  · intro row hrow
    obtain ⟨run, hrun⟩ := exec_row row hrow s
    refine ⟨fun abandoned => ?_, fun taken => ⟨fun other => ?_, fun code => ⟨(commandOf_row f row hrow).2 code, ?_⟩⟩⟩
    · exact hrun.trans (congrArg _ (State.transaction_of_abandoned _ _ negated abandoned))
    · exact hrun.trans (congrArg _ (State.transaction_of_other _ _ ⟨negated, taken⟩
        fun h => other ((commandOf_row f row hrow).1 h)))
    · intro unfit
      rw [hrun, State.command, State.transaction_of_ready _ ⟨negated, taken⟩ ((commandOf_row f row hrow).2 code),
        if_pos (badFrame_of_not_fits code unfit)]
  · intro code
    refine ⟨fun abandoned => ?_, fun taken => ⟨fun head big => ?_, fun other => ?_⟩⟩
    · exact congrArg Host.Outcome.next (State.transaction_of_abandoned _ _ negated abandoned)
    · have named := (commandOf_unknown_iff (f := f) code).2 ⟨head, big⟩
      exact ⟨named, congrArg Host.Outcome.next (State.transaction_of_ready _ ⟨negated, taken⟩ named)⟩
    · refine congrArg Host.Outcome.next (State.transaction_of_other _ _ ⟨negated, taken⟩ fun h => ?_)
      obtain ⟨head, big⟩ := (commandOf_unknown_iff code).1 h
      exact other.elim (fun ne => ne head) fun small => absurd big (Nat.not_lt.2 small)

/-! ### SETUP, ENTER, LEAVE, RESTART -/

theorem State.respond_eq (code : Byte) (status : Status) (data : List Byte) (s : State) :
    s.respond code status data = s.withPort { s.port with response := ⟨code, status, data⟩ } := rfl

/-- A frame of whole bytes with its field bytes and padding of 00h fits its command. -/
theorem fits_of_bytes {code : Byte} {fields pad : List Byte} (whole : f.bits.length % 8 = 0) (zero : ∀ x ∈ pad, x = 0)
    (bytes : f.bytes = code :: fields ++ pad) : Fits f code fields.length :=
  ⟨whole, by simp [bytes], by simp [bytes], by simpa [bytes] using zero⟩

theorem byte_cases (b : Byte) : b = 0 ∨ b = 1 ∨ 2 ≤ b.toNat := by bv_omega

theorem sagModeFrom_eq (b : Byte) :
    sagModeFrom b.toNat = if b.toNat ≤ 1 then some (if b = 0 then .shared else .localOnly) else none := by
  rcases byte_cases b with rfl | rfl | h
  · rfl
  · rfl
  · rw [if_neg (by omega)]
    unfold sagModeFrom
    split <;> first | rfl | omega

theorem polarityFrom_eq (b : Byte) :
    polarityFrom b.toNat = if b.toNat ≤ 1 then some (if b = 0 then .activeHigh else .activeLow) else none := by
  rcases byte_cases b with rfl | rfl | h
  · rfl
  · rfl
  · rw [if_neg (by omega)]
    unfold polarityFrom
    split <;> first | rfl | omega

theorem placementFrom_eq (b : Byte) :
    placementFrom b.toNat = if b.toNat ≤ 1 then some (if b = 0 then .pack else .spread) else none := by
  rcases byte_cases b with rfl | rfl | h
  · rfl
  · rfl
  · rw [if_neg (by omega)]
    unfold placementFrom
    split <;> first | rfl | omega

/-- The staged bytes make a setup record exactly where they pass the tests of Table 9-3 (R152). -/
theorem stagedSetup_eq (l b bd p e q d u g sf mode pol : Byte) :
    stagedSetup [l, b, bd, p, e, q, d, u, g, sf, mode, pol] =
      if (8 ≤ l.toNat ∧ l.toNat ≤ 128) ∧ 1 ≤ b.toNat ∧ bd.toNat ≤ b.toNat ∧
          (1 ≤ p.toNat ∧ p.toNat ≤ 4) ∧ (2 * p.toNat + 1 ≤ e.toNat ∧ e.toNat ≤ 15) ∧
          (1 ≤ q.toNat ∧ q.toNat ≤ 32) ∧ (1 ≤ d.toNat ∧ d.toNat ≤ 15) ∧
          (1 ≤ u.toNat ∧ u.toNat ≤ b.toNat ∧ u.toNat ≤ 63) ∧ (1 ≤ g.toNat ∧ 4 * g.toNat ≤ l.toNat) ∧
          (1 ≤ sf.toNat ∧ sf.toNat ≤ 15) ∧ mode.toNat ≤ 1 ∧ pol.toNat ≤ 1 then
        some ⟨l.toNat, b.toNat, bd.toNat, p.toNat, e.toNat, q.toNat, d.toNat, u.toNat, g.toNat, sf.toNat,
          if mode = 0 then .shared else .localOnly, if pol = 0 then .activeHigh else .activeLow⟩
      else none := by
  have byte : b.toNat < 256 := b.isLt
  rw [stagedSetup, sagModeFrom_eq, polarityFrom_eq]
  by_cases hm : mode.toNat ≤ 1
  · by_cases hp : pol.toNat ≤ 1
    · rw [if_pos hm, if_pos hp]
      refine if_congr ?_ rfl rfl
      rw [Setup.valid_iff]
      dsimp only
      omega
    · rw [if_pos hm, if_neg hp]
      exact (if_neg (by omega)).symm
  · rw [if_neg hm]
    exact (if_neg (by omega)).symm

/-- Settles O9: the twelve bytes are those of `stagedSetup`, and its tests are those of Table 9-3. -/
theorem setupIsTakenWholeOrNotAtAll : Obligations.SetupIsTakenWholeOrNotAtAll := by
  intro l b bd p e q d u g sf mode pol pad f s ready off zero whole bytes
  have fits : Fits f 0x01 12 := fits_of_bytes (fields := [l, b, bd, p, e, q, d, u, g, sf, mode, pol]) whole zero bytes
  have staged : f.fields.take 12 = [l, b, bd, p, e, q, d, u, g, sf, mode, pol] := by simp [HostFrame.fields, bytes]
  have open_port : s.port.abandoned = false := ready.2
  rw [exec_setup_of_fits ready fits, State.setupCommand, if_pos off, staged]
  refine congrArg Host.Outcome.next ?_
  unfold State.judgeStaging
  dsimp only [State.port_withPort, Option.bind_some]
  rw [stagedSetup_eq]
  split <;> rename_i fair
  · split at fair
    · next pass =>
      rw [if_pos pass]
      cases fair
      simp only [State.respond_eq, State.acceptSetup, State.outputOff_eq, open_port]
      rfl
    · cases fair
  · split at fair
    · cases fair
    · next fail =>
      rw [if_neg fail]
      simp only [State.respond_eq, State.port_withPort, open_port]
      rfl

/-- Settles O10. -/
theorem enterGoesToJoining : Obligations.EnterGoesToJoining := by
  intro f s ready fits off
  rw [exec_enter_of_fits ready fits, State.enterCommand, if_pos off]
  refine congrArg Host.Outcome.next ?_
  rw [State.setupValid]
  split
  · rw [State.note_after, State.enterJoining_eq, State.noteState, State.note_after]
    have live : s.joining.queuePresence.reportedLive =
        (allStations.filter fun p => (s.peers.get p).counts).length := by
      simp [State.reportedLive, State.onLine, State.liveCount, State.joining, State.queuePresence]
    rw [live]
    rfl
  · rfl

theorem State.reportedLive_leaving (s : State) (ds : List Demand) :
    (s.leaving.noteDone .left ds).reportedLive = 0 := by
  simp [State.reportedLive, State.onLine, State.leaving, State.queueLeave]

/-- Entry to LEAVING less its records, block by block (R73). -/
theorem State.leaving_eq (s : State) : s.leaving = { s with
    member := { s.member with station := .leaving, exitCause := .hostLeave }
    map := s.map.removeLiveOf s.id
    holdings := []
    output := ⟨.idle, false⟩
    outbox := { Outbox.empty with leave := true, inFlight := s.outbox.inFlight }
    planner := ⟨false, [], false, 0, 0⟩
    timer := { s.timer with founding := 0 }
    demands := [] } := by
  simp only [State.leaving, State.outputOff, State.queueLeave, Outbox.flush, CycleTimer.foundingStopped, State.withMember,
    State.withMap, State.withHoldings, State.withOutput, State.withOutbox, State.withPlanner, State.withTimer,
    State.withDemands, ClaimPlanner.cleared]

/-- Settles O11: entry to LEAVING less its records is `State.leaving`; the records follow in one run. -/
theorem leaveEndsService : Obligations.LeaveEndsService := by
  intro f s ready fits station
  refine ⟨s.map.removeLiveOf s.id, ?_, fun k => SlotMap.get_removeLiveOf _ _ _⟩
  rw [exec_leave_of_fits ready fits, State.leaveCommand, if_pos ((s.onLine_iff).2 station), State.beginLeaving_eq,
    State.noteState, State.reportedLive_leaving, State.noteDone_after, State.note_after, State.notes_withNotes,
    NotificationQueue.after_append, State.leaving_eq]
  rfl

/-- Settles O12. -/
theorem restartKeepsOnlySetupAndId : Obligations.RestartKeepsOnlySetupAndId := by
  intro f s ready fits
  have negated : s.rstn = false := ready.1
  have cleared : s.cleared s.setup .hostRestart = { State.reset with
      pending := s.pending
      id := s.id
      setup := s.setup
      member := { State.reset.member with exitCause := .hostRestart }
      notes := ⟨[], false⟩
      sag := { State.reset.sag with sagin := s.sag.sagin }
      snap := { s.snap with valid := false, pending := false } } := by
    rw [State.cleared, negated]
    rfl
  rw [exec_restart_of_fits ready fits, State.restart, cleared]
  rfl

end Sys2Proof.Machine
end

section
/-!
PROOF. The output that follows the Holding List (R123, R124), and the head change (R86, R99).
-/

namespace Sys2Proof.Machine

variable {s t : State}

/-! ### Entries that go out of service -/

/-- The output after the entries of the slots that `p` names have gone out of service: off where the current slot is
among them, in the tail where the next one is (R123, R124). -/
def State.outputWithout (p : SlotIndex → Bool) (s : State) : LoadOutput :=
  match s.timer.phase with
  | .inSlot j _ =>
    if s.output.phase = .on then
      if p j = true then ⟨.idle, false⟩
      else if s.output.carry = true ∧ (nextSlot j).any p = true then ⟨.tail, false⟩
      else s.output
    else s.output
  | _ => s.output

theorem State.outputWithout_of_off (p : SlotIndex → Bool) (h : s.output.phase ≠ .on) : s.outputWithout p = s.output := by
  unfold State.outputWithout
  split
  · rw [if_neg h]
  · rfl

theorem State.outputWithout_of_on (p : SlotIndex → Bool) (h : s.output.phase = .on) {j : SlotIndex} {e : Nat}
    (slot : s.timer.phase = .inSlot j e) : s.outputWithout p =
      if p j = true then ⟨.idle, false⟩
      else if s.output.carry = true ∧ (nextSlot j).any p = true then ⟨.tail, false⟩
      else s.output := by
  unfold State.outputWithout
  rw [slot]
  exact if_pos h

/-- Under the law of the output, an output that is on stands in a slot (R121). -/
theorem State.OutputLaw.slot_of_on (law : s.OutputLaw) (h : s.output.phase = .on) :
    ∃ j e, s.timer.phase = .inSlot j e ∧ s.activeAt j = true := by
  have current := (law.1 h).2
  unfold State.currentActive at current
  split at current
  · next j e slot => exact ⟨j, e, slot, current⟩
  · cases current

/-- Following a Holding List from which the slots of `p` have gone, under the law of the output. -/
theorem State.OutputLaw.syncOutput_eq (law : s.OutputLaw) (p : SlotIndex → Bool) (output : t.output = s.output)
    (timer : t.timer = s.timer) (active : ∀ k, t.activeAt k = (s.activeAt k && !p k)) :
    t.syncOutput = t.withOutput (s.outputWithout p) := by
  obtain ⟨o, e, off, slots⟩ := t.syncOutput_spec
  rw [e]
  congr 1
  by_cases on : s.output.phase = .on
  · obtain ⟨j, el, slot, current⟩ := law.slot_of_on on
    rw [slots j el (timer ▸ slot) (output ▸ on), State.outputWithout_of_on p on slot, output, active, current]
    by_cases gone : p j = true
    · simp [gone]
    · by_cases carry : s.output.carry = true
      · have follows := (law.2.1 carry).2
        simp only [State.followingActive, slot] at follows
        obtain ⟨i, next, ha⟩ := (Option.any_eq_true _ _).1 follows
        simp [gone, carry, next, active, ha]
      · simp [gone, carry]
  · rw [off (output ▸ on), State.outputWithout_of_off p on, output]

theorem State.activeAt_filter (p : SlotIndex → Bool) (k : SlotIndex) (s : State) :
    (s.withHoldings (s.holdings.filter fun h => !p h.slot)).activeAt k = (s.activeAt k && !p k) := by
  rw [Bool.eq_iff_iff]
  simp only [State.activeAt, State.holdings_withHoldings, List.any_eq_true, List.mem_filter,
    Bool.and_eq_true, beq_iff_eq, Bool.not_eq_true']
  constructor
  · rintro ⟨h, ⟨hm, hp⟩, rfl, ha⟩
    exact ⟨⟨h, hm, rfl, ha⟩, hp⟩
  · rintro ⟨⟨h, hm, rfl, ha⟩, hp⟩
    exact ⟨h, ⟨hm, hp⟩, rfl, ha⟩

theorem Holding.held_of_isActive {h : Holding} (ha : h.isActive = true) : h.held = true := by
  rw [Holding.held_iff]
  intro hr
  simp [Holding.isActive, hr] at ha

theorem State.activeAt_releaseEntries (p : SlotIndex → Bool) (k : SlotIndex) (s : State) :
    (s.withHoldings (releaseEntries p s.holdings)).activeAt k = (s.activeAt k && !p k) := by
  rw [Bool.eq_iff_iff]
  simp only [State.activeAt, State.holdings_withHoldings, releaseEntries, List.any_map, Function.comp_def,
    List.any_eq_true, Bool.and_eq_true, beq_iff_eq, Bool.not_eq_true']
  constructor
  · rintro ⟨h, hm, hk⟩
    split at hk
    · cases hk.2
    · next stays =>
      have := h.held_of_isActive hk.2
      exact ⟨⟨h, hm, hk⟩, by simpa [this, hk.1] using stays⟩
  · rintro ⟨⟨h, hm, rfl, ha⟩, hp⟩
    exact ⟨h, hm, by simp [hp, ha]⟩

/-- Releasing holdings as one update of the blocks, under the law of the output (R98). -/
theorem State.OutputLaw.releaseHoldings_eq (law : s.OutputLaw) (p : SlotIndex → Bool) : s.releaseHoldings p =
    ((s.withHoldings (releaseEntries p s.holdings)).withOutbox
      (s.outbox.queueRelease (slotSetOf (s.heldWhere p)))).withOutput (s.outputWithout p) :=
  law.syncOutput_eq p rfl rfl fun k => s.activeAt_releaseEntries p k

/-- Dropping holdings as one update of the blocks, under the law of the output (R10, R12). -/
theorem State.OutputLaw.dropHoldings_eq (law : s.OutputLaw) (p : SlotIndex → Bool) : s.dropHoldings p =
    (s.withHoldings (s.holdings.filter fun h => !p h.slot)).withOutput (s.outputWithout p) :=
  law.syncOutput_eq p rfl rfl fun k => s.activeAt_filter p k

/-- What an output can be once holdings are released: it keeps an output that is not on, and follows the list where
the law of the output held. -/
theorem State.releaseHoldings_output (p : SlotIndex → Bool) (s : State) : ∃ out, s.releaseHoldings p =
    ((s.withHoldings (releaseEntries p s.holdings)).withOutbox
      (s.outbox.queueRelease (slotSetOf (s.heldWhere p)))).withOutput out ∧
    (s.output.phase ≠ .on → out = s.output) ∧ (s.OutputLaw → out = s.outputWithout p) := by
  obtain ⟨out, h, off⟩ := s.releaseHoldings_spec p
  exact ⟨out, h, off, fun law => congrArg State.output (h.symm.trans (law.releaseHoldings_eq p))⟩

theorem State.dropHoldings_output (p : SlotIndex → Bool) (s : State) : ∃ out, s.dropHoldings p =
    (s.withHoldings (s.holdings.filter fun h => !p h.slot)).withOutput out ∧
    (s.output.phase ≠ .on → out = s.output) ∧ (s.OutputLaw → out = s.outputWithout p) := by
  obtain ⟨out, h, off⟩ := s.dropHoldings_spec p
  exact ⟨out, h, off, fun law => congrArg State.output (h.symm.trans (law.dropHoldings_eq p))⟩

/-! ### The head change -/

theorem heldSlots_in_surplus (l : List SlotIndex) (k : Nat) (h : l.Nodup) :
    l.filter (fun i => (l.drop k).contains i) = l.drop k := by
  have front : (l.take k).filter (fun i => (l.drop k).contains i) = [] := by
    rw [List.filter_eq_nil_iff]
    intro i hi
    rw [← List.take_append_drop k l] at h
    have apart := (List.nodup_append.1 h).2.2 i hi
    simpa using fun hd => apart i hd rfl
  conv_lhs => rw [← List.take_append_drop k l]
  rw [List.filter_append, List.take_append_drop, front, List.nil_append]
  exact List.filter_eq_self.2 fun i hi => by simpa using hi

theorem State.heldSlots_nodup (h : (s.holdings.map Holding.slot).Nodup) : s.heldSlots.Nodup :=
  h.sublist (List.filter_sublist.map _)

/-- How many of a list `demote` leaves PENDING or ACTIVE (R86). -/
theorem length_held_demote (k : Nat) (hs : List Holding) :
    ((demote k hs).filter Holding.held).length = min k (hs.filter Holding.held).length := by
  induction hs generalizing k with
  | nil => simp
  | cons h hs ih =>
    by_cases hr : h.state = .releasing
    · have out : h.held = false := by simp [← Bool.not_eq_true, Holding.held_iff, hr]
      simp [demote_releasing k h hs hr, out, ih]
    · have held : h.held = true := h.held_iff.2 hr
      cases k with
      | zero => simp [demote_zero h hs hr, ih]
      | succ k => simp [demote_succ k h hs hr, held, ih]

/-- The head change, block by block: the surplus released, the waiting CLAIM fitted, the served flag cleared
(R86, R99). -/
theorem State.headChange_eq (nodup : (s.holdings.map Holding.slot).Nodup) : ∃ out, s.headChange =
    (((((s.withHoldings (demote s.headWant s.holdings)).withOutbox
      { s.outbox.queueRelease (slotSetOf (s.heldSlots.drop s.headWant)) with
        claim := (fitted (s.headWant - s.heldCount) s.outbox.claim s.planner).1 }).withPlanner
          (fitted (s.headWant - s.heldCount) s.outbox.claim s.planner).2).withOutput out).withDemands
            (clearServed s.demands)) ∧
    (s.output.phase ≠ .on → out = s.output) ∧
    (s.OutputLaw → out = s.outputWithout fun i => (s.heldSlots.drop s.headWant).contains i) := by
  obtain ⟨out, h, off, law⟩ := s.releaseHoldings_output fun i => (s.heldSlots.drop s.headWant).contains i
  refine ⟨out, ?_, off, law⟩
  have entries : releaseEntries (fun i => (s.heldSlots.drop s.headWant).contains i) s.holdings =
      demote s.headWant s.holdings := s.releaseSurplus_entries _ nodup
  have named : s.heldWhere (fun i => (s.heldSlots.drop s.headWant).contains i) = s.heldSlots.drop s.headWant :=
    heldSlots_in_surplus _ _ (State.heldSlots_nodup nodup)
  rw [entries, named] at h
  have kept (t : State) (hd : t.demands = s.demands) (hh : t.holdings = demote s.headWant s.holdings) :
      t.headWant - t.heldCount = s.headWant - s.heldCount := by
    rw [State.heldCount, hh, length_held_demote, State.headWant, hd]
    show s.headWant - min s.headWant s.heldCount = _
    omega
  rw [State.headChange, State.releaseSurplus, h, State.fitClaim_withOutput, State.fitClaim_eq, kept _ (by rfl) (by rfl)]
  simp only [State.outbox_withOutbox, State.planner_withOutbox, State.planner_withHoldings,
    Outbox.claim_queueRelease]
  rfl

theorem fitted_none (room : Nat) (pl : ClaimPlanner) : fitted room none pl = (none, pl) := rfl

theorem fitted_without_room (x : SlotSet) (pl : ClaimPlanner) :
    fitted 0 (some x) pl = (none, { pl with claimOutstanding := false, pickOrder := [] }) := rfl

theorem fitted_with_room {room : Nat} (x : SlotSet) {pl : ClaimPlanner} (some_room : 0 < room)
    (h : pl.pickOrder.length ≤ room) : fitted room (some x) pl = (some x, pl) := by
  simp [fitted, some_room.ne', Nat.not_lt.2 h]

theorem fitted_short {room : Nat} (x : SlotSet) {pl : ClaimPlanner} (some_room : 0 < room)
    (h : room < pl.pickOrder.length) : fitted room (some x) pl =
      (some (slotSetOf (pl.pickOrder.take room)), { pl with pickOrder := pl.pickOrder.take room }) := by
  simp [fitted, some_room.ne', h]

theorem fitted_frame (room : Nat) (claim : Option SlotSet) (pl : ClaimPlanner) : (fitted room claim pl).2 =
    { pl with
      claimOutstanding := (fitted room claim pl).2.claimOutstanding
      pickOrder := (fitted room claim pl).2.pickOrder } := by
  unfold fitted
  split_ifs <;> rfl

/-- Settles O15: by `State.headChange_eq`, the three fits of a waiting CLAIM one by one. -/
theorem headChangeFitsHoldingsToTheHead : Obligations.HeadChangeFitsHoldingsToTheHead := by
  intro s nodup
  rw [← s.heldSlots_eq]
  intro k n surplus room
  obtain ⟨out, h, off, law⟩ := State.headChange_eq nodup
  have want : s.headWant = k := by
    cases hd : s.demands <;> simp [k, State.headWant, hd]
  have count : s.heldCount = n := by rw [← State.length_heldSlots, s.heldSlots_eq, List.length_map]
  rw [want] at h law
  rw [count] at h
  have cleared : clearServed s.demands = match s.demands with
      | [] => []
      | d :: ds => { d with served := false } :: ds := by
    cases s.demands <;> rfl
  refine ⟨_, _, out, h.trans (congrArg _ cleared), ?_, rfl, fitted_frame _ _ _, ?_, ?_, off, ?_⟩
  · rw [(s.outbox.queueRelease_spec _).1]
  · intro none
    rw [none, fitted_none]
    exact ⟨rfl, rfl⟩
  · intro waits
    obtain ⟨x, hx⟩ := Option.isSome_iff_exists.1 waits
    rw [hx]
    refine ⟨fun no_room => ?_, fun some_room enough => ?_, fun some_room short => ?_⟩
    · rw [show k - n = 0 from no_room, fitted_without_room]
      exact ⟨rfl, rfl, rfl⟩
    · rw [fitted_with_room (room := k - n) x some_room enough]
      exact ⟨rfl, rfl⟩
    · rw [fitted_short (room := k - n) x some_room short]
      exact ⟨rfl, rfl⟩
  · intro outputLaw on j e slot
    rw [law outputLaw, State.outputWithout_of_on _ on slot]
    simp only [List.contains_iff_mem]
    rfl

end Sys2Proof.Machine
end

section
/-!
PROOF. DEMAND and WITHDRAW, the commands that read, and the layout of what they answer.
-/

namespace Sys2Proof.Machine

variable {s : State} {f : HostFrame}

/-! ### DEMAND and WITHDRAW -/

theorem Demand.valid_iff (d : Demand) : d.valid = true ↔
    1 ≤ d.tag.toNat ∧ (1 ≤ d.want ∧ d.want ≤ 64) ∧ (1 ≤ d.floor ∧ d.floor ≤ d.want) := by
  simp [Demand.valid, and_assoc]

/-- The demand that a frame's field bytes spell, where they are in their ranges (R83). -/
theorem demandFrom_eq {code tag k m pr pl s1 s0 : Byte} {pad : List Byte}
    (bytes : f.bytes = [code, tag, k, m, pr, pl, s1, s0] ++ pad) : demandFrom f =
      if 1 ≤ tag.toNat ∧ (1 ≤ k.toNat ∧ k.toNat ≤ 64) ∧ (1 ≤ m.toNat ∧ m.toNat ≤ k.toNat) ∧
          pr.toNat ≤ 3 ∧ pl.toNat ≤ 1 then
        some ⟨tag, k.toNat, m.toNat, Fin.ofNat 4 pr.toNat, if pl = 0 then .pack else .spread,
          s1.toNat * 256 + s0.toNat, s1.toNat * 256 + s0.toNat, false⟩
      else none := by
  have fields : f.fields = [tag, k, m, pr, pl, s1, s0] ++ pad := by simp [HostFrame.fields, bytes]
  have place : fieldNat f 4 = pl.toNat := by simp [fieldNat, fieldByte, fields]
  have prio : fieldNat f 3 = pr.toNat := by simp [fieldNat, fieldByte, fields]
  rw [demandFrom, place, placementFrom_eq]
  by_cases hpl : pl.toNat ≤ 1
  · rw [if_pos hpl]
    by_cases hpr : fieldNat f 3 < 4
    · have four : Fin.ofNat 4 pr.toNat = ⟨fieldNat f 3, hpr⟩ := Fin.ext (by simp [← prio, Nat.mod_eq_of_lt hpr])
      dsimp only
      rw [dif_pos hpr, ← four]
      simp only [fieldNat, fieldByte, fields]
      refine if_congr ?_ rfl rfl
      rw [Demand.valid_iff]
      simp
      omega
    · dsimp only
      rw [dif_neg hpr]
      exact (if_neg (by omega)).symm
  · rw [if_neg hpl]
    exact (if_neg (by omega)).symm

/-- Settles O13: the fields by `demandFrom_eq`, and the tests of the two commands in their order. -/
theorem demandIsPlacedOrRefusedInOrder : Obligations.DemandIsPlacedOrRefusedInOrder := by
  intro code tag k m pr pl s1 s0 pad f s ready state zero whole bytes fair span d replaced
  have from_frame : demandFrom f = if fair then some d else none := demandFrom_eq bytes
  have fits : Fits f code 7 := fits_of_bytes (fields := [tag, k, m, pr, pl, s1, s0]) whole zero bytes
  refine ⟨fun replace => ?_, fun append => ?_⟩
  · subst replace
    rw [exec_demandReplace_of_fits ready fits, State.replaceCommand, if_neg state, from_frame]
    refine ⟨fun unfair => by rw [if_neg unfair], fun is_fair => ?_⟩
    rw [if_pos is_fair]
    dsimp only
    rw [State.replaceDemands, State.noteDone_after]
  · subst append
    rw [exec_demandAppend_of_fits ready fits, State.appendCommand, if_neg state, from_frame]
    refine ⟨fun unfair => by rw [if_neg unfair], fun is_fair held => ?_, fun is_fair new full => ?_,
      fun is_fair new room => ?_⟩ <;> rw [if_pos is_fair] <;> dsimp only
    · rw [if_pos (by simpa using held)]
    · rw [if_neg (by simpa using new), if_pos (show Config.demandCapacity ≤ _ from full)]
    · rw [if_neg (by simpa using new), if_neg (show ¬ Config.demandCapacity ≤ _ from Nat.not_le.2 room), State.appendDemand]
      cases hd : s.demands <;> simp

theorem find?_tag {before after : List Demand} {d : Demand} (nodup : ((before ++ d :: after).map Demand.tag).Nodup) :
    (before ++ d :: after).find? (fun e => e.tag == d.tag) = some d := by
  rw [List.map_append, List.map_cons, List.nodup_append] at nodup
  have none_before : before.find? (fun e => e.tag == d.tag) = none := by
    rw [List.find?_eq_none]
    intro e he same
    exact nodup.2.2 _ (List.mem_map_of_mem he) _ List.mem_cons_self (by simpa using same)
  simp [List.find?_append, none_before]

theorem filter_tag {before after : List Demand} {d : Demand} (nodup : ((before ++ d :: after).map Demand.tag).Nodup) :
    (before ++ d :: after).filter (fun e => !(e.tag == d.tag)) = before ++ after := by
  rw [List.map_append, List.map_cons, List.nodup_append, List.nodup_cons] at nodup
  obtain ⟨-, ⟨fresh, -⟩, apart⟩ := nodup
  rw [List.filter_append, List.filter_cons_of_neg (by simp)]
  congr 1 <;> refine List.filter_eq_self.2 fun e he => ?_
  · simpa using apart _ (List.mem_map_of_mem he) _ List.mem_cons_self
  · simpa using fun same : e.tag = d.tag => fresh (same ▸ List.mem_map_of_mem he)

/-- Settles O14: a tag held once is found in its place, and only there. -/
theorem withdrawEndsTheNamedDemand : Obligations.WithdrawEndsTheNamedDemand := by
  intro f s ready fits nodup
  have tag : fieldByte f 0 = f.bytes.getD 1 0 := by
    unfold fieldByte HostFrame.fields
    cases f.bytes <;> rfl
  rw [exec_withdraw_of_fits ready fits, State.withdrawCommand, State.demandWithTag, tag]
  refine ⟨fun absent => ?_, fun before d after split tagged => ?_⟩
  · have : s.demands.find? (fun d => d.tag == f.bytes.getD 1 0) = none := by
      simpa [List.find?_eq_none] using absent
    rw [this]
  · rw [split] at nodup
    rw [← tagged, split, find?_tag nodup]
    dsimp only
    rw [State.withdrawDemand, split, filter_tag nodup]
    cases before with
    | nil => simp
    | cons e es =>
      have other : e.tag ≠ d.tag := by simp_all
      simp [other]

/-! ### The commands that read -/

/-- Settles O17: each command runs its own reading. -/
theorem readingCommandsAnswer : Obligations.ReadingCommandsAnswer := by
  intro f s ready
  have page : fieldNat f 0 = (f.bytes.getD 1 0).toNat := by
    unfold fieldNat fieldByte HostFrame.fields
    cases f.bytes <;> rfl
  refine ⟨fun fits => ?_, fun fits on => ?_, fun fits => exec_queueRead_of_fits ready fits, fun fits => ?_,
    fun fits => ?_⟩
  · rw [exec_nextNote_of_fits ready fits, State.nextNoteCommand]
    cases s.notes.records <;> rfl
  · rw [exec_snap_of_fits ready fits, State.snapCommand, if_pos (s.onLine_iff.2 on)]
    rfl
  · rw [exec_snapRead_of_fits ready fits, page]
    rfl
  · rw [exec_peersRead_of_fits ready fits, page]
    rfl

/-! ### What they answer -/

/-- Entries of one length stand at multiples of it. -/
theorem take_drop_flatMap {α : Type} {n : Nat} {g : α → List Byte} {l : List α} (h : ∀ a ∈ l, (g a).length = n)
    (j : Nat) : ((l.flatMap g).drop (n * j)).take n = ((l[j]?).map g).getD [] := by
  induction l generalizing j with
  | nil => simp
  | cons a l ih =>
    have len : (g a).length = n := h a List.mem_cons_self
    rw [List.flatMap_cons]
    cases j with
    | zero => simp [← len]
    | succ j =>
      rw [show n * (j + 1) = (g a).length + n * j by rw [len]; ring, List.drop_append, List.drop_eq_nil_of_le (by omega)]
      simpa using ih (fun b hb => h b (List.mem_cons_of_mem a hb)) j

theorem length_flatMap_of {α : Type} {n : Nat} {g : α → List Byte} {l : List α} (h : ∀ a ∈ l, (g a).length = n) :
    (l.flatMap g).length = n * l.length := by
  induction l with
  | nil => simp
  | cons a l ih =>
    rw [List.flatMap_cons, List.length_append, h a List.mem_cons_self,
      ih fun b hb => h b (List.mem_cons_of_mem a hb), List.length_cons]
    ring

/-- Entries of one length, filled with 00h up to a fixed number of them. -/
theorem take_drop_padded {α : Type} {n m : Nat} {g : α → List Byte} {l : List α} (h : ∀ a ∈ l, (g a).length = n)
    {j : Nat} (hj : j < m) :
    ((l.flatMap g ++ List.replicate (n * (m - l.length)) 0).drop (n * j)).take n =
      ((l[j]?).map g).getD (List.replicate n 0) := by
  have len := length_flatMap_of h
  by_cases hl : j < l.length
  · have inside : n * j + n ≤ n * l.length := by nlinarith
    rw [List.drop_append_of_le_length (by omega), List.take_append_of_le_length (by rw [List.length_drop, len]; omega),
      take_drop_flatMap h, List.getElem?_eq_getElem hl]
    rfl
  · have outside : n * l.length ≤ n * j := Nat.mul_le_mul_left n (not_lt.1 hl)
    have room : n ≤ n * (m - l.length) - (n * j - n * l.length) := by
      have : n * (j + 1) ≤ n * m := Nat.mul_le_mul_left n hj
      rw [Nat.mul_sub]
      rw [Nat.mul_add] at this
      omega
    rw [List.drop_append, List.drop_eq_nil_of_le (by omega), List.nil_append, len, List.drop_replicate,
      List.take_replicate, List.getElem?_eq_none (not_lt.1 hl), min_eq_left room]
    rfl

/-- Past a header, places count from its end. -/
theorem drop_header {header : List Byte} {m : Nat} (h : header.length = m) (l : List Byte) (n : Nat) :
    (header ++ l).drop (m + n) = l.drop n := by
  rw [List.drop_append, List.drop_eq_nil_of_le (by omega), List.nil_append, h, Nat.add_sub_cancel_left]

theorem Note.bytes_eq (c : CycleNumber) (b : NoteBody) : (Note.mk c b).bytes =
    [b.kindCode] ++ wordBytes c.toNat ++ [b.tag] ++ wordBytes b.count ++ [b.code] := rfl

theorem SlotSummary.length_bytes (x : SlotSummary) : x.bytes.length = 4 := rfl

theorem State.length_peerBytes (s : State) (p : StationId) : (s.peerBytes p).length = 5 := rfl

theorem Demand.length_bytes (d : Demand) (b : Bool) : (d.bytes b).length = 10 := rfl

/-- The snapshot's pages (R160, Table 10-9). -/
theorem SnapshotBuffer.pageData_layout (b : SnapshotBuffer) (page : Nat) (h : page ≤ 7) :
    (b.pageData page).length = 35 ∧ (b.pageData page).take 3 = [byteOf page] ++ wordBytes b.cycle.toNat ∧
    ∀ k : SlotIndex, k.val / 8 = page → ((b.pageData page).drop (3 + 4 * (k.val % 8))).take 4 = (b.slots.get k).bytes := by
  have size : b.slots.cells.length = 64 := b.slots.size
  refine ⟨?_, rfl, fun k hk => ?_⟩
  · rw [SnapshotBuffer.pageData, List.length_append, length_flatMap_of fun _ _ => SlotSummary.length_bytes _]
    simp [wordBytes, size]
    omega
  · have := take_drop_flatMap (l := (b.slots.cells.drop (8 * page)).take 8) (g := SlotSummary.bytes) (n := 4)
      (fun _ _ => SlotSummary.length_bytes _) (k.val % 8)
    have place : 8 * page + k.val % 8 = k.val := by omega
    have entry : ((b.slots.cells.drop (8 * page)).take 8)[k.val % 8]? = some (b.slots.get k) := by
      rw [List.getElem?_take_of_lt (by omega), List.getElem?_drop, place, List.getElem?_eq_getElem (by simp [size])]
      rfl
    rw [entry] at this
    have page_eq : b.pageData page = (byteOf page :: wordBytes b.cycle.toNat) ++
        ((b.slots.cells.drop (8 * page)).take 8).flatMap SlotSummary.bytes := rfl
    rw [page_eq, drop_header (m := 3) rfl]
    exact this

/-- The pages of the Peer Table (R162). -/
theorem State.peersPage_layout (s : State) (page : Nat) :
    (s.peersPage page).length = 42 ∧
    (s.peersPage page).take 2 = [byteOf page, byteOf (min 8 (s.livePeers.length - 8 * page))] ∧
    ∀ j < 8, ((s.peersPage page).drop (2 + 5 * j)).take 5 =
      ((s.livePeers[8 * page + j]?).map s.peerBytes).getD (List.replicate 5 0) := by
  refine ⟨?_, ?_, fun j hj => ?_⟩
  · rw [State.peersPage]
    have few : ((s.livePeers.drop (8 * page)).take 8).length ≤ 8 := List.length_take_le _ _
    simp only [List.length_cons, List.length_append, List.length_replicate,
      length_flatMap_of fun _ _ => s.length_peerBytes _]
    omega
  · rw [State.peersPage]
    simp
  · have := take_drop_padded (g := s.peerBytes)
      (l := (s.livePeers.drop (8 * page)).take 8) (fun _ _ => s.length_peerBytes _) hj
    rw [List.getElem?_take_of_lt hj, List.getElem?_drop] at this
    have page_eq : s.peersPage page = [byteOf page, byteOf ((s.livePeers.drop (8 * page)).take 8).length] ++
        (((s.livePeers.drop (8 * page)).take 8).flatMap s.peerBytes ++
          List.replicate (5 * (8 - ((s.livePeers.drop (8 * page)).take 8).length)) 0) := rfl
    rw [page_eq, drop_header (m := 2) rfl, ← this]

/-- The demand records (R163). -/
theorem State.queueData_layout (s : State) (few : s.demands.length ≤ 8) :
    s.queueData.length = 81 ∧ s.queueData.take 1 = [byteOf s.demands.length] ∧
    ∀ j < 8, (s.queueData.drop (1 + 10 * j)).take 10 =
      ((s.demands[j]?).map fun d => d.bytes (j == 0)).getD (List.replicate 10 0) := by
  cases hd : s.demands with
  | nil =>
    have queue : s.queueData = [byteOf 0] ++ List.replicate 80 0 := by
      rw [State.queueData, hd]
      rfl
    refine ⟨by simp [queue], by simp [queue], fun j hj => ?_⟩
    rw [queue, drop_header (m := 1) rfl]
    exact take_drop_padded (n := 10) (l := []) (g := fun d : Demand => d.bytes false) (by simp) hj
  | cons d ds =>
    rw [hd] at few
    have queue : s.queueData = byteOf (ds.length + 1) :: (d.bytes true ++ ((ds.flatMap fun d => d.bytes false) ++
        List.replicate (10 * (7 - ds.length)) 0)) := by
      simp [State.queueData, hd, List.append_assoc]
    have rest : ds.length ≤ 7 := Nat.le_of_succ_le_succ few
    refine ⟨?_, by simp [queue], fun j hj => ?_⟩
    · rw [queue]
      simp only [List.length_cons, List.length_append, List.length_replicate, Demand.length_bytes,
        length_flatMap_of fun _ _ => Demand.length_bytes _ _]
      omega
    · rw [queue, show 1 + 10 * j = 10 * j + 1 by omega, List.drop_succ_cons]
      cases j with
      | zero => simp [← Demand.length_bytes d true]
      | succ j =>
        have := take_drop_padded (n := 10) (g := fun d : Demand => d.bytes false) (fun _ _ => Demand.length_bytes _ _)
          (j := j) (m := 7) (l := ds) (by omega)
        rw [show 10 * (j + 1) = (d.bytes true).length + 10 * j by rw [Demand.length_bytes]; ring, List.drop_append,
          List.drop_eq_nil_of_le (by omega)]
        simpa using this

theorem SlotSummary.bytes_eq (x : SlotSummary) : x.bytes =
    [byteOf x.committed, byteOf x.holders, byteOf x.orphanUnits,
      match x.own with
      | none => 0
      | some .pending => 1
      | some .active => 2
      | some .releasing => 3] := by
  obtain ⟨c, h, u, own⟩ := x
  rcases own with _ | _ | _ | _ <;> rfl

/-- Settles O18: the layouts of the pages and of the demand records, and the codes one by one. -/
theorem responseDataFollowTheirLayout : Obligations.ResponseDataFollowTheirLayout := by
  refine ⟨fun s i => ⟨rfl, rfl⟩, fun s ready i => ⟨rfl, rfl, fun h => ?_⟩, fun x => ?_, fun x => ?_, fun x => ?_,
    fun s => rfl, fun c body => ?_, fun b page h => ?_, fun s page => ?_, fun s few => ?_⟩
  · simp [State.sdoBit, h.1, h.2]
  · cases x <;> rfl
  · cases x <;> rfl
  · cases x <;> rfl
  · cases body with
    | served t n => rfl
    | short t n why => cases why <;> rfl
    | done t n why => cases why <;> rfl
    | yielded n why => cases why <;> rfl
    | state now why n => rfl
    | derate n why => cases why <;> rfl
  · obtain ⟨length, header, entries⟩ := b.pageData_layout page h
    refine ⟨length, header, fun k hk => (entries k hk).trans ?_⟩
    rw [SlotSummary.bytes_eq]
    rcases (b.slots.get k).own with _ | _ | _ | _ <;> rfl
  · obtain ⟨length, header, entries⟩ := s.peersPage_layout page
    refine ⟨length, header, fun j hj => (entries j hj).trans ?_⟩
    show ((s.livePeers[8 * page + j]?).map s.peerBytes).getD _ = match s.livePeers[8 * page + j]? with
      | some p => _
      | none => _
    cases s.livePeers[8 * page + j]? with
    | none => rfl
    | some p => simp [State.peerBytes, flagByte, byteOf]
  · obtain ⟨length, header, entries⟩ := s.queueData_layout few
    refine ⟨length, header, fun j hj => (entries j hj).trans ?_⟩
    cases s.demands[j]? with
    | none => rfl
    | some d => simp [Demand.bytes, flagByte, byteOf, wordBytes]

end Sys2Proof.Machine
end

section
/-!
PROOF. Records in one run, and the Sag Monitor: the filter, the local shed, the SAG and its designation.
-/

namespace Sys2Proof.Machine

variable {s t u : State}

/-! ### Records -/

@[simp] theorem State.notes_note (b : NoteBody) (s : State) : (s.note b).notes = s.notes.after [⟨s.timer.cycle, b⟩] := by
  rw [State.note_after]
  rfl

/-- The SHORT record that is due: the head's, where its flag is set (R91). -/
def State.shortRecords (c : ShortCause) (s : State) : List Note :=
  match s.demands with
  | d :: _ => if d.served = true then [⟨s.timer.cycle, .short d.tag s.activeCount c⟩] else []
  | [] => []

theorem clearServed_of_clear {d : Demand} (ds : List Demand) (h : d.served = false) : clearServed (d :: ds) = d :: ds := by
  cases d
  cases h
  rfl

/-- SHORT is its record and the clear flag (R91). -/
theorem State.short_eq (c : ShortCause) (s : State) :
    s.short c = (s.withNotes (s.notes.after (s.shortRecords c))).withDemands (clearServed s.demands) := by
  unfold State.short State.shortRecords
  cases hd : s.demands with
  | nil =>
    obtain ⟨_⟩ := s
    cases hd
    simp [clearServed, State.withNotes, State.withDemands]
  | cons d ds =>
    cases served : d.served with
    | true => simp [served, State.note_after]
    | false =>
      obtain ⟨_⟩ := s
      cases hd
      simp [served, clearServed_of_clear ds served, State.withNotes, State.withDemands]

/-- YIELDED where entries have gone, then SHORT where the flag is set, queued in one run (R77, R114). -/
theorem State.yielded_short_eq (n : Nat) (y : YieldCode) (c : ShortCause) (s : State) :
    (if n = 0 then s else s.note (.yielded n y)).short c =
      (s.withNotes (s.notes.after ((if n = 0 then [] else [⟨s.timer.cycle, .yielded n y⟩]) ++
        s.shortRecords c))).withDemands (clearServed s.demands) := by
  by_cases none : n = 0
  · rw [if_pos none, if_pos none, State.short_eq, List.nil_append]
  · rw [if_neg none, if_neg none, State.short_eq, State.note_after, ← NotificationQueue.after_append]
    rfl

/-- SHORT below the floor (R13, R111). -/
theorem State.shortIfBelow_cons {d : Demand} {ds : List Demand} (c : ShortCause) (h : s.demands = d :: ds) :
    s.shortIfBelow c = if d.served = true ∧ s.activeCount < d.floor then
      (s.note (.short d.tag s.activeCount c)).withDemands ({ d with served := false } :: ds) else s := by
  unfold State.shortIfBelow
  rw [h]
  dsimp only
  by_cases below : s.activeCount < d.floor
  · cases served : d.served <;> simp [below, served, State.short, h, clearServed]
  · simp [below]

theorem State.shortIfBelow_nil (c : ShortCause) (h : s.demands = []) : s.shortIfBelow c = s := by
  unfold State.shortIfBelow
  rw [h]

/-! ### SAGIN and its filter -/

theorem State.onLine_pass (n : Nat) (s : State) : (s.pass n).onLine = s.onLine := by
  unfold State.onLine
  rw [State.station_pass]

/-- The sag condition changes once S is up (R104). -/
theorem exec_sagConditionChange (negated : s.rstn = false) (held : s.setup.isSome = true)
    (moved : s.sag.sagin ≠ s.sag.condition) : exec .sagConditionChange s = .next (
      let u := s.pass (s.filterTicks - s.sag.filter)
      let v := u.withSag { u.sag with condition := s.sag.sagin, filter := 0 }
      if s.sag.sagin = true then v.sagAppears else v) := by
  refine congrArg Host.Outcome.next ((State.unlessHeld_of_negated _ negated).trans ?_)
  have differs : (s.setupValid && s.sag.sagin != s.sag.condition) = true := by simp [State.setupValid, held, moved]
  unfold State.conditionChanges
  rw [if_pos differs]
  rfl

/-- Settles O19. -/
theorem sagConditionFollowsTheFilter : Obligations.SagConditionFollowsTheFilter := by
  refine ⟨fun b s => rfl, fun s negated idle => ?_, fun s negated held moved => ⟨fun quiet => ?_, fun present on shared => ?_⟩⟩
  · refine congrArg Host.Outcome.next ((State.unlessHeld_of_negated _ negated).trans (if_neg ?_))
    rcases idle with none | same
    · simp [State.setupValid, none]
    · simp [same]
  · rw [exec_sagConditionChange negated held moved]
    rcases quiet with absent | off
    · simp [absent]
    · have off : (s.pass (s.filterTicks - s.sag.filter)).onLine = false := (s.onLine_pass _).trans off
      have off' (x : SagMonitor) : ((s.pass (s.filterTicks - s.sag.filter)).withSag x).onLine = false := off
      simp [State.sagAppears, off']
  · rw [exec_sagConditionChange negated held moved]
    have on' (x : SagMonitor) : ((s.pass (s.filterTicks - s.sag.filter)).withSag x).onLine = true :=
      (s.onLine_pass _).trans on
    have mode (x : SagMonitor) : ((s.pass (s.filterTicks - s.sag.filter)).withSag x).cfg.sagMode = .shared := shared
    simp only [present, if_true, State.sagAppears, on', mode]
    rfl

/-! ### The local shed -/

theorem releaseEntries_all (hs : List Holding) :
    releaseEntries (fun _ => true) hs = hs.map fun h => { h with state := .releasing } := by
  refine List.map_congr_left fun h _ => ?_
  obtain ⟨k, st⟩ := h
  cases st <;> rfl

theorem State.heldWhere_all (s : State) : (s.heldWhere fun _ => true) = s.heldSlots := by
  simp [State.heldWhere]

theorem State.outputWithout_all (law : s.OutputLaw) (on : s.output.phase = .on) :
    s.outputWithout (fun _ => true) = ⟨.idle, false⟩ := by
  obtain ⟨j, e, slot, -⟩ := law.slot_of_on on
  rw [State.outputWithout_of_on _ on slot, if_pos rfl]

theorem activeCount_all_releasing (hs : List Holding) :
    ((hs.map fun h => ({ h with state := .releasing } : Holding)).filter Holding.isActive).length = 0 := by
  simp [List.filter_map, Function.comp_def, Holding.isActive]

/-- The records of a local shed of `n` entries, in their order (R114). -/
def State.shedRecords (n : Nat) (s : State) : List Note :=
  (if n = 0 then [] else [⟨s.timer.cycle, .yielded n .sagLocal⟩]) ++
    match s.demands with
    | d :: _ => if d.served = true then [⟨s.timer.cycle, .short d.tag 0 .sag⟩] else []
    | [] => []

/-- The local shed at a JOINING station (R114). -/
theorem State.localShed_of_joining (h : s.member.station = .joining) : s.localShed =
    (s.withOutbox { s.outbox with claim := none }).withPlanner
      { s.planner with
        localHold := s.cfg.derateHold
        yieldHold := true
        claimOutstanding := s.planner.claimOutstanding && s.outbox.claim.isNone
        pickOrder := if s.outbox.claim.isSome then [] else s.planner.pickOrder } := by
  simp only [State.localShed, h, reduceCtorEq, if_false, State.setYieldHold_spec]
  rfl

/-- The local shed at a MEMBER, block by block (R114). -/
theorem State.localShed_of_member (h : s.member.station = .member) : ∃ out, s.localShed =
    ((((((s.withOutbox { s.outbox.queueRelease (slotSetOf s.heldSlots) with claim := none }).withPlanner
      { s.planner with
        localHold := s.cfg.derateHold
        yieldHold := true
        claimOutstanding := s.planner.claimOutstanding && s.outbox.claim.isNone
        pickOrder := if s.outbox.claim.isSome then [] else s.planner.pickOrder }).withHoldings
          (s.holdings.map fun h => { h with state := .releasing })).withOutput out).withNotes
            (s.notes.after (s.shedRecords s.heldCount))).withDemands (clearServed s.demands)) ∧
    (s.output.phase ≠ .on → out = s.output) ∧
    (s.OutputLaw → s.output.phase = .on → out = ⟨.idle, false⟩) := by
  obtain ⟨out, released, off, law⟩ := s.releaseHoldings_output fun _ => true
  refine ⟨out, ?_, off, fun outputLaw on => (law outputLaw).trans (State.outputWithout_all outputLaw on)⟩
  rw [State.heldWhere_all, releaseEntries_all] at released
  have none_active (t : State) (ht : t.holdings = s.holdings.map fun h => { h with state := .releasing }) :
      t.activeCount = 0 := by rw [State.activeCount, ht, activeCount_all_releasing]
  have cfg (a : List Holding) (b : Outbox) (c : LoadOutput) :
      (((s.withHoldings a).withOutbox b).withOutput c).cfg = s.cfg := rfl
  simp only [State.localShed, h, if_true, released, State.setYieldHold_spec, cfg]
  rw [State.yielded_short_eq, State.shedRecords, State.shortRecords, none_active _ (by simp)]
  simp only [State.withHoldings, State.withOutbox, State.withOutput, State.withPlanner, State.withNotes,
    State.withDemands, Outbox.claim_queueRelease]

/-- Settles O20: the hold by `setYieldHold_spec`, and at a MEMBER the shed and its records before and after it. -/
theorem localSagShedsTheHoldings : Obligations.LocalSagShedsTheHoldings := by
  intro s negated held present absent on mode u n yielded short
  have run : exec .sagConditionChange s =
      .next (u.withSag { u.sag with condition := true, filter := 0 }).sagAppears := by
    rw [exec_sagConditionChange negated held (by simp [present, absent])]
    simp only [present, if_true, u]
  have onLine : u.onLine = true := (s.onLine_pass _).trans on
  have station : u.member.station = s.member.station := State.station_pass _ s
  have cfg : u.cfg = s.cfg := State.cfg_congr (by simp [u])
  have outputLaw : s.OutputLaw → u.OutputLaw := (Change.pass (mark := none) _).outputLaw
  have frame := s.pass_frame (s.filterTicks - s.sag.filter)
  obtain ⟨-, -, -, -, outbox, -, -, demands, planner, holdings, output, -, -, -⟩ :
    u.pending = _ ∧ u.rstn = _ ∧ u.id = _ ∧ u.setup = _ ∧ u.outbox = _ ∧ u.map = _ ∧ u.peers = _ ∧ u.demands = _ ∧
      u.planner = _ ∧ u.holdings = _ ∧ u.output = _ ∧ u.port = _ ∧ u.notes = _ ∧ u.snap = _ := frame
  clear_value u
  have appears : (u.withSag { u.sag with condition := true, filter := 0 }).sagAppears =
      (u.withSag { u.sag with condition := true, filter := 0 }).localShed := by
    have on' (x : SagMonitor) : (u.withSag x).onLine = true := onLine
    have mode' (x : SagMonitor) : (u.withSag x).cfg.sagMode = .localOnly := cfg ▸ mode
    simp only [State.sagAppears, on', mode', if_true]
  rw [appears] at run
  have count : s.heldCount = n := by rw [← State.length_heldSlots, s.heldSlots_eq, List.length_map]
  have records : short.notes = u.notes.after (u.shedRecords n) := by
    have yields : yielded.notes = u.notes.after (if n = 0 then [] else [⟨u.timer.cycle, .yielded n .sagLocal⟩]) ∧
        yielded.timer.cycle = u.timer.cycle := by
      by_cases none : n = 0 <;> simp [yielded, none]
    rw [State.shedRecords, ← NotificationQueue.after_append, ← yields.1, ← yields.2, demands]
    cases hd : s.demands with
    | nil => simp [short, hd]
    | cons d ds => cases served : d.served <;> simp [short, hd, served]
  rcases s.onLine_iff.1 on with joining | member
  · refine ⟨{ s.outbox with claim := none }, _, s.output, rfl, rfl, fun _ => ⟨run.trans ?_, rfl⟩,
      fun member => absurd (joining.symm.trans member) (by decide)⟩
    rw [State.localShed_of_joining (by exact station.trans joining), ← outbox, ← planner, ← cfg]
    rfl
  · obtain ⟨out, shed, off, law⟩ := State.localShed_of_member
      (s := u.withSag { u.sag with condition := true, filter := 0 }) (by exact station.trans member)
    refine ⟨{ s.outbox.queueRelease (slotSetOf s.heldSlots) with claim := none }, _, out, ?_, rfl,
      fun joining => absurd (joining.symm.trans member) (by decide), fun _ => ⟨run.trans ?_, ?_, fun h => ?_, fun h => ?_⟩⟩
    · rw [(Outbox.queueRelease_spec _ _).1]
    · have slots : u.heldSlots = s.heldSlots := by rw [State.heldSlots, holdings]; rfl
      have held : u.heldCount = n := by rw [← count, State.heldCount, holdings]; rfl
      have cleared : clearServed u.demands = match s.demands with
          | [] => []
          | d :: ds => { d with served := false } :: ds := by
        rw [demands]
        cases s.demands <;> rfl
      rw [shed, records, ← cfg, ← slots, ← held, ← holdings, ← outbox, ← planner]
      exact congrArg (fun ds => Host.Outcome.next (State.withDemands _ ds)) cleared
    · rw [← s.heldSlots_eq]
    · exact (off (output ▸ h)).trans output
    · exact fun on => law (outputLaw h) (output ▸ on)

end Sys2Proof.Machine
end

section
/-!
PROOF. A notice that completes; the SAG and its designation (Section 6.3).
-/

namespace Sys2Proof.Machine

variable {s t u : State} {p : StationId} {n : Notice}

/-! ### A notice that completes -/

theorem State.Completes.negated (h : s.Completes p n u) : s.rstn = false := by
  obtain ⟨hears, -⟩ | ⟨sends, -, -⟩ := h
  · exact hears.1.1
  · exact sends.1

/-- The end of a frame changes the Line Controller and the notice in flight alone. -/
theorem State.Completes.frame (h : s.Completes p n u) :
    u.pending = s.pending ∧ u.rstn = s.rstn ∧ u.id = s.id ∧ u.setup = s.setup ∧ u.timer = s.timer ∧
    u.map = s.map ∧ u.peers = s.peers ∧ u.member = s.member ∧ u.demands = s.demands ∧
    u.planner = s.planner ∧ u.holdings = s.holdings ∧ u.sag = s.sag ∧ u.output = s.output ∧ u.port = s.port ∧
    u.notes = s.notes ∧ u.snap = s.snap := by
  obtain ⟨-, rfl⟩ | ⟨-, -, rfl⟩ := h <;> simp [State.afterHeard, State.afterSent]

theorem State.Completes.member_eq (h : s.Completes p n u) : u.member = s.member := by
  obtain ⟨-, -, -, -, -, -, -, member, -⟩ := h.frame
  exact member

theorem State.Completes.id_eq (h : s.Completes p n u) : u.id = s.id := by
  obtain ⟨-, -, hid, -⟩ := h.frame
  exact hid

theorem State.Completes.onLine_eq (h : s.Completes p n u) : u.onLine = s.onLine := by
  unfold State.onLine
  rw [h.member_eq]

theorem State.Completes.unlessHeld_eq (h : s.Completes p n u) (f : State → State) :
    (s.unlessHeld fun s => s.complete p n f f) = f u :=
  (State.unlessHeld_of_negated _ h.negated).trans (State.complete_of_completes f h)

/-! ### The SAG -/

/-- The law of the output looks at these blocks alone (R121). -/
theorem State.OutputLaw.of_blocks (h : s.OutputLaw) (output : t.output = s.output) (timer : t.timer = s.timer)
    (holdings : t.holdings = s.holdings) (peers : t.peers = s.peers) (setup : t.setup = s.setup)
    (member : t.member = s.member) : t.OutputLaw :=
  h.of_eq output (fun k e slot => ⟨e, timer ▸ slot⟩) (fun k active => by rwa [State.activeAt, holdings])
    (fun quorum => (State.quorate_congr setup (fun _ => by rw [peers]) (by rw [member])).trans quorum)
    (fun off => member ▸ off)

/-- SHORT below the floor, behind records that another state of the same cycle has queued. -/
theorem State.shortIfBelow_queued (c : ShortCause) (cycle : u.timer.cycle = s.timer.cycle) :
    (s.withNotes u.notes).shortIfBelow c = match s.demands with
      | d :: ds =>
        if d.served = true ∧ s.activeCount < d.floor then
          (s.withNotes (u.note (.short d.tag s.activeCount c)).notes).withDemands ({ d with served := false } :: ds)
        else s.withNotes u.notes
      | [] => s.withNotes u.notes := by
  cases hd : s.demands with
  | nil => exact State.shortIfBelow_nil _ hd
  | cons d ds =>
    have queued : ((s.withNotes u.notes).note (.short d.tag s.activeCount c)) =
        s.withNotes (u.note (.short d.tag s.activeCount c)).notes := by
      rw [State.note_after, State.notes_note, cycle]
      rfl
    rw [State.shortIfBelow_cons _ (by exact hd)]
    exact if_congr Iff.rfl (congrArg (State.withDemands · _) queued) rfl

/-- Releasing is releasing whatever the state of the entry (R98). -/
theorem releaseEntries_eq (p : SlotIndex → Bool) (hs : List Holding) : releaseEntries p hs =
    hs.map fun h => if p h.slot then { h with state := .releasing } else h := by
  refine List.map_congr_left fun h _ => ?_
  obtain ⟨k, st⟩ := h
  cases st <;> cases p k <;> rfl

theorem State.heldWhere_eq (p : SlotIndex → Bool) (s : State) : s.heldWhere p =
    (s.holdings.filter fun h => decide (h.state ≠ .releasing) && p h.slot).map Holding.slot := by
  rw [State.heldWhere, s.heldSlots_eq, List.filter_map, List.filter_filter]
  congr 2
  funext h
  exact Bool.and_comm _ _

/-- The blocks after a yield: the named slots released, the waiting CLAIM withdrawn, the hold set (R111). -/
def State.yieldBlocks (x : SlotSet) (out : LoadOutput) (s : State) : State :=
  (((s.withHoldings (releaseEntries (slotIn x) s.holdings)).withOutbox
    { s.outbox.queueRelease (slotSetOf (s.heldWhere (slotIn x))) with claim := none }).withPlanner
      { s.planner with
        yieldHold := true
        claimOutstanding := s.planner.claimOutstanding && s.outbox.claim.isNone
        pickOrder := if s.outbox.claim.isSome then [] else s.planner.pickOrder }).withOutput out

theorem State.sagYield_of_unnamed (h : s.designatedHere = 0) : s.sagYield = s := by
  unfold State.sagYield
  exact if_pos h

/-- A yield, block by block, before its records (R111). -/
theorem State.sagYield_of_named (h : s.designatedHere ≠ 0) : ∃ out, s.sagYield =
    (if (s.heldWhere (slotIn s.designatedHere)).length = 0 then s.yieldBlocks s.designatedHere out
      else (s.yieldBlocks s.designatedHere out).note
        (.yielded (s.heldWhere (slotIn s.designatedHere)).length .sagShared)).shortIfBelow .sag ∧
    (s.output.phase ≠ .on → out = s.output) ∧
    (s.OutputLaw → out = s.outputWithout (slotIn s.designatedHere)) := by
  obtain ⟨out, released, off, law⟩ := s.releaseHoldings_output (slotIn s.designatedHere)
  refine ⟨out, ?_, off, law⟩
  have blocks : (s.releaseHoldings (slotIn s.designatedHere)).setYieldHold = s.yieldBlocks s.designatedHere out := by
    rw [released, State.setYieldHold_spec]
    simp only [State.yieldBlocks, State.withHoldings, State.withOutbox, State.withPlanner, State.withOutput,
      Outbox.claim_queueRelease]
  unfold State.sagYield
  rw [if_neg h]
  dsimp only
  rw [blocks]

/-- The window of a SAG (R109). -/
def State.sagBegins (s : State) : State :=
  (if s.sag.derateRemaining = 0 then s.note (.derate s.cfg.derateHold .started) else s).withSag
    { s.sag with derateRemaining := s.cfg.derateHold, windowOpen := true }

theorem State.sagBegins_frame (s : State) :
    s.sagBegins.id = s.id ∧ s.sagBegins.setup = s.setup ∧ s.sagBegins.outbox = s.outbox ∧
    s.sagBegins.timer = s.timer ∧ s.sagBegins.map = s.map ∧ s.sagBegins.peers = s.peers ∧
    s.sagBegins.member = s.member ∧ s.sagBegins.demands = s.demands ∧ s.sagBegins.planner = s.planner ∧
    s.sagBegins.holdings = s.holdings ∧ s.sagBegins.output = s.output := by
  unfold State.sagBegins
  split <;> simp

theorem State.sagApplies_eq (on : s.onLine = true) : s.sagApplies =
    if s.member.station = .member then s.sagBegins.sagYield else s.sagBegins := by
  have began : s.sagApplies =
      if s.sagBegins.member.station = .member then s.sagBegins.sagYield else s.sagBegins := by
    unfold State.sagApplies State.sagBegins
    rw [if_pos on]
    by_cases none : s.sag.derateRemaining = 0
    · simp only [none, if_true, State.note_after]
      rfl
    · simp only [none, if_false]
  obtain ⟨-, -, -, -, -, -, member, -⟩ := s.sagBegins_frame
  rw [began, member]

theorem State.designatedHere_sagBegins (s : State) : s.sagBegins.designatedHere =
    s.map.designatedSlots s.cfg.deratedBudget
      (fun q => if q = s.id then s.planner.announcedPriority else (s.peers.get q).priority) s.id := by
  obtain ⟨hid, setup, -, -, map, peers, -, -, planner, -⟩ := s.sagBegins_frame
  unfold State.designatedHere State.yieldPriority
  rw [hid, State.cfg_congr setup, map, peers, planner]

/-- Settles O21: the window by `sagApplies_eq`, and what the designation asks by `sagYield_of_named`. -/
theorem sagBeginsTheWindowAndYields : Obligations.SagBeginsTheWindowAndYields := by
  intro s u p completes on w prio x named holdings active yielded
  have run : exec (.sagComplete p) s =
      .next (if u.member.station = .member then u.sagBegins.sagYield else u.sagBegins) := by
    rw [← State.sagApplies_eq (completes.onLine_eq.trans on)]
    exact congrArg _ (completes.unlessHeld_eq State.sagApplies)
  have hw : w = u.sagBegins := rfl
  obtain ⟨-, setup, outbox, timer, -, peers, member', demands, planner, entries, output⟩ := u.sagBegins_frame
  by_cases member : u.member.station = .member
  · have hx : u.sagBegins.designatedHere = x :=
      u.designatedHere_sagBegins.trans (if_pos member).symm
    rw [if_pos member] at run
    refine ⟨fun none => run.trans (congrArg _ (State.sagYield_of_unnamed (hx.trans none))), fun some => ?_⟩
    obtain ⟨out, yield, off, law⟩ := State.sagYield_of_named (s := u.sagBegins) (hx ▸ some)
    rw [hx] at yield law
    have hnamed : u.sagBegins.heldWhere (slotIn x) = named := by rw [State.heldWhere_eq, entries]
    have hholdings : releaseEntries (slotIn x) u.sagBegins.holdings = holdings := by rw [releaseEntries_eq, entries]
    refine ⟨_, out, rfl, fun h => (off (output ▸ h)).trans output, fun outputLaw phase j e slot => ?_, ?_⟩
    · have begun : u.sagBegins.OutputLaw := outputLaw.of_blocks output timer entries peers setup member'
      rw [law begun, State.outputWithout_of_on _ (output ▸ phase) (timer ▸ slot), output]
    · intro t
      have ht : u.sagBegins.yieldBlocks x out = t := by
        rw [State.yieldBlocks, hholdings, hnamed, outbox, planner, (Outbox.queueRelease_spec _ _).1]
        rfl
      have records : (if named.length = 0 then t else t.note (.yielded named.length .sagShared)) =
          t.withNotes yielded.notes := by
        by_cases none : named = []
        · rw [if_pos (List.length_eq_zero_iff.2 none)]
          simp only [yielded, if_pos none]
          rfl
        · rw [if_neg (mt List.length_eq_zero_iff.1 none), State.note_after]
          simp only [yielded, if_neg none, State.notes_note]
          rfl
      have queue : t.demands = u.demands := demands
      have count : t.activeCount = active := rfl
      have cycle : yielded.timer.cycle = t.timer.cycle := by
        by_cases none : named = [] <;> simp [yielded, none, t]
      clear_value t yielded active
      have reported := State.shortIfBelow_queued .sag cycle
      rw [queue, count] at reported
      rw [run, yield, hnamed, ht, records]
      refine congrArg Host.Outcome.next (reported.trans ?_)
      cases u.demands <;> rfl
  · have hx : x = 0 := if_neg member
    rw [if_neg member] at run
    exact ⟨fun _ => run, fun some => absurd hx some⟩

/-! ### The designation -/

/-- Sorting into the four priorities keeps every member of the list once. -/
theorem flatMap_priorities_perm {α : Type} [DecidableEq α] (key : α → Priority) (l : List α) :
    (([0, 1, 2, 3] : List Priority).flatMap fun q => l.filter fun a => key a == q).Perm l := by
  rw [List.perm_iff_count]
  intro a
  have bucket (q : Priority) : (l.filter fun b => key b == q).count a = if key a = q then l.count a else 0 := by
    by_cases h : key a = q
    · rw [if_pos h, List.count_filter (by simp [h])]
    · rw [if_neg h]
      exact List.count_eq_zero_of_not_mem fun hm => h (by simpa using (List.mem_filter.1 hm).2)
  simp only [List.flatMap_cons, List.flatMap_nil, List.append_nil, List.count_append, bucket]
  generalize key a = k
  revert k
  simp [Fin.forall_fin_succ]

/-- The yield order is sorted by priority, the last in grant order first (R110). -/
theorem yieldOrder_pairwise (prio : StationId → Priority) (e : SlotEntry) :
    (yieldOrder prio e).Pairwise fun a b =>
      prio a.station < prio b.station ∨ (prio a.station = prio b.station ∧ [b, a].Sublist e) := by
  refine List.pairwise_flatMap.2 ⟨fun q _ => ?_, ?_⟩
  · rw [List.pairwise_iff_forall_sublist]
    intro a b pair
    have prioOf {r : HolderRecord} (h : r ∈ [a, b]) : prio r.station = q := by
      simpa using (List.mem_filter.1 (pair.subset h)).2
    have newest : [a, b].Sublist (e.filter HolderRecord.isLive).reverse := pair.trans List.filter_sublist
    have oldest : [b, a].Sublist (e.filter HolderRecord.isLive) := by simpa using newest.reverse
    exact .inr ⟨(prioOf (by simp)).trans (prioOf (by simp)).symm, oldest.trans List.filter_sublist⟩
  · have ascending : ([0, 1, 2, 3] : List Priority).Pairwise (· < ·) := by decide
    refine ascending.imp fun {q r} less a ha b hb => .inl ?_
    have hq : prio a.station = q := by simpa using (List.mem_filter.1 ha).2
    have hr : prio b.station = r := by simpa using (List.mem_filter.1 hb).2
    rwa [hq, hr]

/-- Designation takes the shortest part of the order, from its front, that suffices (R110). -/
theorem yieldUntil_spec (bd : Nat) (l : List HolderRecord) : ∀ units, ∃ n, n ≤ l.length ∧
    yieldUntil bd units l = (l.take n).map HolderRecord.station ∧
    (∀ i < n, bd < units - ((l.take i).map HolderRecord.units).sum) ∧
    (n < l.length → units - ((l.take n).map HolderRecord.units).sum ≤ bd) := by
  induction l with
  | nil => exact fun units => ⟨0, le_rfl, rfl, by simp, by simp⟩
  | cons r rs ih =>
    intro units
    by_cases within : units ≤ bd
    · exact ⟨0, Nat.zero_le _, by simp [yieldUntil, within], by simp, fun _ => within⟩
    · obtain ⟨n, len, stations, short, enough⟩ := ih (units - r.units)
      refine ⟨n + 1, by simpa using len, by simp [yieldUntil, within, stations], fun i hi => ?_, fun more => ?_⟩
      · cases i with
        | zero => simpa using within
        | succ i => simpa [Nat.sub_add_eq] using short i (by omega)
      · simpa [Nat.sub_add_eq] using enough (by simpa using more)

/-- Settles O22: the order by `flatMap_priorities_perm` and `yieldOrder_pairwise`, its part by `yieldUntil_spec`. -/
theorem designationIsTheShortestSufficientYield : Obligations.DesignationIsTheShortestSufficientYield := by
  intro bd prio e order
  have every : order.Perm (e.filter fun r => r.orphan.isNone) :=
    (flatMap_priorities_perm (fun r : HolderRecord => prio r.station) _).trans (List.reverse_perm _)
  obtain ⟨n, len, stations, short, enough⟩ := yieldUntil_spec bd order (committed e)
  refine ⟨every, fun i j hi hj less => List.pairwise_iff_getElem.1 (yieldOrder_pairwise prio e) i j hi hj less,
    n, len, stations, short, enough, fun m k p entry => ?_⟩
  rw [SlotMap.slotIn_designatedSlots, entry, ← stations]
  rfl

end Sys2Proof.Machine
end

section
/-!
PROOF. The rows that come about inside another event: silent peers, quorum loss, faults, and the conditions of a mark.
-/

namespace Sys2Proof.Machine

variable {s t u : State}

/-! ### Quorum -/

theorem PeerEntry.counts_iff (e : PeerEntry) : e.counts = true ↔ e.live = true ∧ e.role = .member := by
  cases role : e.role <;> simp [PeerEntry.counts, role]

/-- The records of a quorum loss of `n` entries, in their order (R77). -/
def State.lossRecords (n : Nat) (s : State) : List Note :=
  (if n = 0 then [] else [⟨s.timer.cycle, .yielded n .quorum⟩]) ++
    match s.demands with
    | d :: _ => if d.served = true then [⟨s.timer.cycle, .short d.tag 0 .quorum⟩] else []
    | [] => []

theorem State.quorumLoss_eq (s : State) : s.quorumLoss =
    (s.quorumDropped.withNotes (s.notes.after (s.lossRecords s.holdings.length))).withDemands
      (clearServed s.demands) := by
  have run : s.quorumLoss = (if s.holdings.length = 0 then s.quorumDropped
      else s.quorumDropped.note (.yielded s.holdings.length .quorum)).short .quorum := rfl
  have none : s.quorumDropped.activeCount = 0 := by
    rw [s.quorumDropped_eq]
    rfl
  rw [run, State.yielded_short_eq, State.shortRecords, none]
  obtain ⟨-, -, -, -, -, timer, -, -, demands, -, notes⟩ := s.quorumDropped_frame
  rw [timer, demands, notes]
  rfl

theorem State.liveCount_eq (s : State) : s.liveCount =
    (allStations.filter fun p => (s.peers.get p).live && decide ((s.peers.get p).role = .member)).length +
      (if s.member.station = .member then 1 else 0) := by
  have counts (p : StationId) : (s.peers.get p).counts =
      ((s.peers.get p).live && decide ((s.peers.get p).role = .member)) := by
    rw [Bool.eq_iff_iff, PeerEntry.counts_iff]
    simp
  simp only [State.liveCount, counts, beq_iff_eq]

/-- Entry to FAULTED, every block spelled (R72). -/
theorem State.faulted_eq (why : Cause) (s : State) : s.faulted why =
    { s with
      map := SlotMap.cleared
      peers := PeerTable.cleared
      holdings := []
      outbox := Outbox.empty
      planner := ⟨false, [], false, 0, 0⟩
      output := ⟨.idle, false⟩
      demands := clearServed s.demands
      sag := { s.sag with derateRemaining := 0, windowOpen := false }
      line := ⟨.idle, 0, true, false, .silent, none, 0, 0, 0⟩
      timer := ⟨.unaligned, s.timer.cycle, 0, false⟩
      member := { s.member with station := .faulted, exitCause := why } } := by
  simp only [State.faulted, State.dropOut, State.outputOff, State.withMap, State.withPeers, State.withHoldings,
    State.withOutbox, State.withPlanner, State.withOutput, State.withDemands, State.withSag, State.withLine,
    State.withTimer, State.withMember]
  rfl

theorem State.enterFaulted_note (why : Cause) (s : State) :
    s.enterFaulted why = (s.faulted why).note (.state .faulted why 0) := by
  rw [State.enterFaulted_eq, State.noteState]
  rfl

/-- Settles O30: the records of a quorum loss by `quorumLoss_eq`, its blocks by `quorumDropped_eq`. -/
theorem quorumLossAndFaultDropEverything : Obligations.QuorumLossAndFaultDropEverything := by
  refine ⟨PeerEntry.counts_iff, fun s => ⟨s.liveCount_eq, s.quorate_iff⟩, ?_, fun why s => ?_⟩
  · intro s n yielded short
    refine ⟨s.map.removeLiveOf s.id, fun k => SlotMap.get_removeLiveOf _ _ _, ?_⟩
    have yields : yielded.notes = s.notes.after (if n = 0 then [] else [⟨s.timer.cycle, .yielded n .quorum⟩]) ∧
        yielded.timer.cycle = s.timer.cycle := by
      by_cases none : n = 0 <;> simp [yielded, none]
    have records : short.notes = s.notes.after (s.lossRecords n) := by
      rw [State.lossRecords, ← NotificationQueue.after_append, ← yields.1, ← yields.2]
      cases hd : s.demands with
      | nil => simp [short, hd]
      | cons d ds => cases served : d.served <;> simp [short, hd, served]
    have cleared : clearServed s.demands = match s.demands with
        | [] => []
        | d :: ds => { d with served := false } :: ds := by
      cases s.demands <;> rfl
    rw [State.quorumLoss_eq, records, State.quorumDropped_eq, (Outbox.queueRelease_spec _ _).1]
    exact congrArg (State.withDemands _) cleared
  · rw [State.enterFaulted_note, State.faulted_eq]

/-! ### Silent peers -/

theorem State.expirePeer_of_silent {q : StationId} (on : s.onLine = true) (other : q ≠ s.id)
    (live : (s.peers.get q).live = true) (silent : s.cfg.expiry ≤ (s.peers.get q).silence) :
    s.expirePeer q = ((s.withPeers (s.peers.set q { s.peers.get q with live := false, silence := 0 })).withMap
      (s.map.orphan q s.timer.cycle s.cfg.expiry)).afterLive s.liveCount := by
  unfold State.expirePeer
  exact if_pos ⟨on, other, live, silent⟩

theorem State.orphanAbsent_of_silent {q : StationId} (on : s.onLine = true) (other : q ≠ s.id)
    (absent : (s.peers.get q).live = false) (silent : s.cfg.expiry ≤ (s.peers.get q).silence) :
    s.orphanAbsent q = (s.withPeers (s.peers.set q { s.peers.get q with silence := 0 })).withMap
      (s.map.orphan q s.timer.cycle s.cfg.expiry) := by
  unfold State.orphanAbsent
  exact if_pos ⟨on, other, absent, silent⟩

theorem HolderRecord.ranOut_eq (r : HolderRecord) : r.ranOut = r.orphan.any fun o => o.marksLeft == 0 := by
  cases h : r.orphan <;> simp [HolderRecord.ranOut, h]

/-- Settles O29. -/
theorem silentPeersExpire : Obligations.SilentPeersExpire := by
  intro q s negated on e orphaned
  refine ⟨fun other silent => ⟨s.map.orphan q s.timer.cycle s.cfg.expiry, fun k => ?_, fun live => ?_, fun absent => ?_⟩,
    fun k => ?_⟩
  · rw [SlotMap.get_orphan, orphanRecords]
    refine List.map_congr_left fun r _ => if_congr ?_ rfl rfl
    simp [HolderRecord.isLive]
  · exact congrArg Host.Outcome.next
      ((State.unlessHeld_of_negated _ negated).trans (State.expirePeer_of_silent on other live silent))
  · refine congrArg Host.Outcome.next
      ((State.unlessHeld_of_negated _ negated).trans ((State.orphanAbsent_of_silent on other absent silent).trans ?_))
    rw [← absent]
  · refine congrArg Host.Outcome.next ((State.unlessHeld_of_negated _ negated).trans ?_)
    unfold State.removeSpentOrphan
    rw [if_pos on]
    simp only [HolderRecord.ranOut_eq]

/-! ### Conditions of a mark -/

theorem Outbox.queueMark_eq (c : CycleNumber) (o : Outbox) :
    o.queueMark c = { o with mark := some (o.mark.getD c) } := by
  unfold Outbox.queueMark
  cases h : o.mark with
  | none => rfl
  | some m =>
    obtain ⟨_⟩ := o
    cases h
    rfl

/-- A JOINING station becomes MEMBER, every block spelled (R65, R29). -/
theorem State.becomeMember_eq (joining : s.member.station = .joining) : s.becomeMember =
    (match s.timer.phase with
      | .inGap _ a =>
        (((s.withMember { s.member with station := .member, standing := 0 }).withTimer
          { s.timer with phase := .inGap 0 a, founding := 0 }).withOutbox
            { s.outbox with mark := some (s.outbox.mark.getD a) }).note (.state .member .none (s.liveCount + 1))
      | _ =>
        ((s.withMember { s.member with station := .member, standing := 0 }).withTimer
          { s.timer with founding := 0 }).note (.state .member .none (s.liveCount + 1))) := by
  have live {t : State} (peers : t.peers = s.peers) (member : t.member.station = .member) :
      t.noteState .none = t.note (.state .member .none (s.liveCount + 1)) := by
    have count : t.reportedLive = s.liveCount + 1 := by
      simp [State.reportedLive, State.onLine_of_member member, State.liveCount, member, joining, peers]
    rw [State.noteState, member, count]
  unfold State.becomeMember
  cases phase : s.timer.phase with
  | inGap e a =>
    simp only [phase, State.timer_withMember]
    refine (live (by rfl) (by rfl)).trans ?_
    rw [State.queueMark, Outbox.queueMark_eq]
    rfl
  | _ =>
    simp only [phase, State.timer_withMember]
    refine (live (t := (s.withMember { s.member with station := .member, standing := 0 }).withTimer
      s.timer.foundingStopped) rfl rfl).trans ?_
    simp only [CycleTimer.foundingStopped, phase]

/-- Settles O31. -/
theorem conditionsOfAMarkActAsCommands : Obligations.ConditionsOfAMarkActAsCommands := by
  intro s negated
  refine ⟨fun member due => ?_, fun joining count own => ?_, fun on opened spent => ?_, fun on hold spent => ?_,
    fun d ds queue span spent => ?_⟩
  all_goals refine congrArg Host.Outcome.next ((State.unlessHeld_of_negated _ negated).trans ?_)
  · unfold State.lapseIfDue
    exact if_pos ⟨member, due⟩
  · have done : s.joiningDone = true := by simp [State.joiningDone, joining, count, own]
    unfold State.joinIfDone
    rw [if_pos done]
    refine (State.becomeMember_eq joining).trans ?_
    cases s.timer.phase <;> rfl
  · unfold State.windowEnds
    exact if_pos ⟨on, opened, spent⟩
  · unfold State.yieldHoldEnds
    exact if_pos ⟨on, hold, spent⟩
  · unfold State.completeDemand
    rw [queue]
    exact if_pos ⟨span, spent⟩

end Sys2Proof.Machine
end

section
/-!
PROOF. CONTEST, RELEASE, PRESENCE and the own CLAIM (Sections 1, 3 and 5).
-/

namespace Sys2Proof.Machine

variable {s t u : State} {p : StationId} {n : Notice}

/-! ### What an output becomes once holdings have gone -/

theorem State.outputWithout_in_slot (x : SlotSet) {j : SlotIndex} {e : Nat} (on : s.output.phase = .on)
    (slot : s.timer.phase = .inSlot j e) : s.outputWithout (slotIn x) =
      if slotIn x j then ⟨.idle, false⟩
      else if s.output.carry = true ∧ (nextSlot j).any (slotIn x) = true then ⟨.tail, false⟩
      else s.output :=
  s.outputWithout_of_on _ on slot

/-! ### CONTEST -/

theorem Outbox.withdrawContest_eq (q : StationId) (x : SlotSet) (o : Outbox) : o.withdrawContest q x =
    { o with contest := o.contest.filter fun c => !(c.1 == q && c.2 &&& ~~~x == 0) } := by
  unfold Outbox.withdrawContest
  obtain ⟨_, _, contest, _⟩ := o
  cases contest with
  | none => rfl
  | some c =>
    by_cases target : c.1 = q <;> by_cases covered : c.2 &&& ~~~x = 0#64 <;>
      simp [slotSubset, Option.filter, target, covered]

/-- A CONTEST at a JOINING or MEMBER station: the map and the waiting CONTEST, and the own holdings where it names
this station (R11, R12, R146). -/
theorem State.contestApplies_eq (q : StationId) (x : SlotSet) (on : s.onLine = true) : s.contestApplies q x =
    (let t := (s.withMap (s.map.contest q x)).withOutbox { s.outbox with
      contest := s.outbox.contest.filter fun c => !(c.1 == q && c.2 &&& ~~~x == 0) }
    if q = s.id then t.contestedHere x else t) := by
  unfold State.contestApplies
  rw [if_pos on, Outbox.withdrawContest_eq]
  rfl

/-- Settles O32: the holdings go by `dropHoldings_output`, and SHORT follows by `shortIfBelow_queued`. -/
theorem contestRemovesTheTarget : Obligations.ContestRemovesTheTarget := by
  intro s u p target x completes on kept gone active yielded
  have run : exec (.contestComplete p target x) s = .next (u.contestApplies target x) :=
    congrArg _ (completes.unlessHeld_eq (State.contestApplies target x))
  rw [State.contestApplies_eq target x (completes.onLine_eq.trans on)] at run
  obtain ⟨out, dropped, off, law⟩ := ((u.withMap (u.map.contest target x)).withOutbox { u.outbox with
    contest := u.outbox.contest.filter fun c => !(c.1 == target && c.2 &&& ~~~x == 0) }).dropHoldings_output (slotIn x)
  refine ⟨u.map.contest target x, out, fun k => SlotMap.get_contest _ _ _ _, ?_⟩
  intro t
  refine ⟨fun other => run.trans (congrArg _ (if_neg other)), fun own => ⟨off, fun outputLaw phase j e slot => ?_, ?_⟩⟩
  · have lawful : t.OutputLaw := outputLaw.of_blocks rfl rfl rfl rfl rfl rfl
    exact (law lawful).trans (t.outputWithout_in_slot x phase slot)
  · let w := (t.withHoldings kept).withOutput out
    have queue : w.demands = u.demands := rfl
    have count : w.activeCount = active := rfl
    have cycle : yielded.timer.cycle = w.timer.cycle := by
      by_cases none : gone = 0 <;> simp [yielded, none, w, t]
    have here : exec (.contestComplete p target x) s =
        .next (if gone = 0 then w else (w.note (.yielded gone .contest)).shortIfBelow .contest) := by
      rw [run]
      refine congrArg Host.Outcome.next ((if_pos own).trans ?_)
      exact congrArg (fun y : State => if gone = 0 then y else (y.note (.yielded gone .contest)).shortIfBelow .contest)
        dropped
    rw [here]
    refine congrArg Host.Outcome.next ?_
    show _ = match u.demands with
      | d :: ds =>
        if gone ≠ 0 ∧ d.served = true ∧ active < d.floor then
          (w.withNotes (yielded.note (.short d.tag active .contest)).notes).withDemands
            ({ d with served := false } :: ds)
        else w.withNotes yielded.notes
      | [] => w.withNotes yielded.notes
    have reported := State.shortIfBelow_queued .contest cycle
    rw [queue, count] at reported
    by_cases none : gone = 0
    · have same : w = w.withNotes yielded.notes := by
        simp only [yielded, if_pos none]
        rfl
      rw [if_pos none, ← same]
      cases u.demands <;> simp [none]
    · have records : w.note (.yielded gone .contest) = w.withNotes yielded.notes := by
        rw [State.note_after]
        simp only [yielded, if_neg none, State.notes_note]
        rfl
      rw [if_neg none, records]
      refine reported.trans ?_
      cases u.demands <;> simp only [ne_eq, none, not_false_eq_true, true_and]

/-! ### RELEASE -/

/-- Settles O33. -/
theorem releaseRemovesTheSender : Obligations.ReleaseRemovesTheSender := by
  intro s u p x completes on
  obtain ⟨out, dropped, off, law⟩ := (u.withMap (u.map.release p x)).dropHoldings_output (slotIn x)
  have onLine : u.onLine = true := completes.onLine_eq.trans on
  refine ⟨u.map.release p x, out, fun k => SlotMap.get_release _ _ _ _, off, fun outputLaw phase j e slot => ?_, ?_⟩
  · have lawful : (u.withMap (u.map.release p x)).OutputLaw := outputLaw.of_blocks rfl rfl rfl rfl rfl rfl
    exact (law lawful).trans (State.outputWithout_in_slot x phase slot)
  · by_cases own : p = s.id
    · obtain ⟨sends, rfl⟩ := completes.sends_of_eq own
      subst own
      rw [if_pos rfl]
      refine congrArg Host.Outcome.next ((State.complete_of_sends _ _ sends).trans (Eq.trans ?_ dropped))
      unfold State.ownReleaseApplies State.releaseApplies
      rw [if_pos onLine, if_pos onLine]
      rfl
    · obtain ⟨hears, rfl⟩ := completes.hears_of_ne own
      rw [if_neg own]
      refine congrArg Host.Outcome.next ((State.complete_of_hears _ _ hears).trans ?_)
      unfold State.releaseApplies
      exact if_pos onLine

/-! ### PRESENCE -/

/-- A CONTEST joins a waiting one for the same target, and is dropped behind one for another (R145). -/
theorem Outbox.queueContest_of_some {x : SlotSet} (p : StationId) (some_slot : x ≠ 0) (o : Outbox) :
    o.queueContest p x = { o with contest := match o.contest with
      | none => some (p, x)
      | some (q, y) => if q = p then some (p, y ||| x) else some (q, y) } := by
  unfold Outbox.queueContest
  rw [if_neg some_slot]
  obtain ⟨_, _, contest, _⟩ := o
  cases contest with
  | none => rfl
  | some c => by_cases same : c.1 = p <;> simp [same]

/-- A PRESENCE of another station at a JOINING or MEMBER station: the map, the Peer Table and the waiting CONTEST,
and then the live count (R44 to R48). -/
theorem State.presenceApplies_eq (p : StationId) (f : PresenceFields) (on : s.onLine = true) : s.presenceApplies p f =
    (let back := !(s.peers.get p).live
    let x := s.map.contestSet s.cfg.budget p f.units back f.holdings
    let queued : Option (StationId × SlotSet) := match s.outbox.contest with
      | none => some (p, x)
      | some (q, y) => if q = p then some (p, y ||| x) else some (q, y)
    State.afterLive s.liveCount
      (((s.withMap (s.map.reconcile s.cfg.budget p f.units back f.holdings)).withPeers
        (s.peers.set p ⟨true, f.role, f.units, f.priority, 0⟩)).withOutbox
          (if s.member.station = .member ∧ x ≠ 0 then { s.outbox with contest := queued } else s.outbox))) := by
  unfold State.presenceApplies
  rw [if_pos on]
  dsimp only
  congr 1
  by_cases member : s.member.station = .member
  · rw [if_pos (by exact member)]
    unfold State.queueContest
    by_cases empty : s.map.contestSet s.cfg.budget p f.units (!(s.peers.get p).live) f.holdings = 0
    · rw [empty, if_neg (by simp)]
      rfl
    · rw [if_pos ⟨member, empty⟩]
      exact congrArg (State.withOutbox _) (Outbox.queueContest_of_some p empty s.outbox)
  · rw [if_neg (by exact member), if_neg fun h => member h.1]
    rfl

/-- Settles O35. -/
theorem presenceReconcilesTheSender : Obligations.PresenceReconcilesTheSender := by
  intro s u p f hears after on back
  subst after
  have onLine : s.afterHeard.onLine = true := on
  refine ⟨s.map.reconcile s.cfg.budget p f.units back f.holdings,
    s.map.contestSet s.cfg.budget p f.units back f.holdings, fun k => ?_, fun k => ?_, ?_⟩
  · rw [SlotMap.get_reconcile, reconcileSlot_eq_reconciled]
  · rw [← contested_eq_mustContest]
    simp [SlotMap.contestSet]
  · intro queued t
    refine congrArg Host.Outcome.next ((State.complete_of_hears _ _ hears).trans ?_)
    exact State.presenceApplies_eq p f onLine

/-- A RELEASE that names slots joins a waiting one (R145). -/
theorem Outbox.queueRelease_of_some (x : SlotSet) (o : Outbox) : o.queueRelease x =
    if x = 0 then o else { o with release := some (o.release.getD 0 ||| x) } := by
  by_cases empty : x = 0
  · rw [if_pos empty, empty]
    exact Outbox.queueRelease_zero o
  · rw [if_neg empty, ← (o.queueRelease_spec x).2 empty]
    exact (o.queueRelease_spec x).1

theorem State.joinIfDone_of_early (early : s.member.joiningCount < s.cfg.expiry) : s.joinIfDone = s := by
  unfold State.joinIfDone
  exact if_neg (by simp [State.joiningDone, early])

theorem State.joinIfDone_of_due (joining : s.member.station = .joining) (count : s.cfg.expiry ≤ s.member.joiningCount)
    (own : s.member.ownPresence = true) : s.joinIfDone = s.becomeMember := by
  unfold State.joinIfDone
  exact if_pos (by simp [State.joiningDone, joining, count, own])

/-- Settles O36: joining completion by `becomeMember_eq`. -/
theorem ownPresenceRenewsStanding : Obligations.OwnPresenceRenewsStanding := by
  intro s u f sends after v
  subst after
  have run : exec (.presenceComplete s.id f) s = .next (s.afterSent.ownPresenceApplies f) :=
    congrArg Host.Outcome.next (State.complete_of_sends _ _ sends)
  unfold State.ownPresenceApplies at run
  have station : (s.afterSent.announce f.priority).member.station = s.member.station := rfl
  have joins (joining : s.member.station = .joining) : exec (.presenceComplete s.id f) s =
      .next ((s.afterSent.announce f.priority).withMember { s.member with ownPresence := true }).joinIfDone := by
    rw [run, if_pos (State.onLine_of_joining (station.trans joining)), if_neg (by rw [station, joining]; decide)]
    rfl
  refine ⟨fun member => ⟨f.holdings &&& ~~~(s.map.heldBy s.id), fun k => by simp, ?_⟩, fun joining count => ?_,
    fun joining count => ?_, fun leaving => ?_⟩
  · rw [run, if_pos (State.onLine_of_member (station.trans member)), if_pos (station.trans member),
      State.queueRelease, Outbox.queueRelease_of_some]
    rfl
  · exact (joins joining).trans (congrArg _ (State.joinIfDone_of_early (by exact count)))
  · intro w
    rw [joins joining, State.joinIfDone_of_due (by exact joining) (by exact count) rfl]
    refine congrArg Host.Outcome.next ((State.becomeMember_eq (by exact joining)).trans ?_)
    show (match s.timer.phase with
      | .inGap _ a => _
      | _ => _) = _
    cases s.timer.phase <;> rfl
  · have off : (s.afterSent.announce f.priority).onLine = false := by simp [State.onLine, station, leaving]
    rw [run, if_neg (by simp [off])]
    rfl

/-! ### The own CLAIM -/

theorem SlotMap.granted_eq (b : Nat) (p : StationId) (units : Nat) (x : SlotSet) (m : SlotMap) :
    m.granted b p units x = allSlots.filter fun k => slotIn x k &&
      decide ((∀ r ∈ m.get k, r.station ≠ p) ∧ ((m.get k).map HolderRecord.units).sum + units ≤ b) := by
  refine List.filter_congr fun k _ => ?_
  rw [Bool.eq_iff_iff]
  simp only [Bool.and_eq_true, fits_iff, decide_eq_true_eq, List.mem_map, not_exists, not_and]
  rfl

theorem SlotMap.get_admission_granted (b : Nat) (p : StationId) (units : Nat) (x : SlotSet) (m : SlotMap)
    (k : SlotIndex) : (m.admission b p units x).get k =
      if k ∈ m.granted b p units x then m.get k ++ [⟨p, units, none⟩] else m.get k := by
  rw [SlotMap.get_admission]
  refine if_congr ?_ rfl rfl
  rw [SlotMap.mem_granted, Bool.and_eq_true]

/-- The output stays where no ACTIVE entry has gone out of service (R123). -/
theorem State.OutputLaw.outputWithout_of_kept (law : s.OutputLaw) {p : SlotIndex → Bool}
    (kept : ∀ k, s.activeAt k = true → p k = false) : s.outputWithout p = s.output := by
  by_cases on : s.output.phase = .on
  · obtain ⟨j, e, slot, active⟩ := law.slot_of_on on
    rw [State.outputWithout_of_on _ on slot, if_neg (by simp [kept j active]), if_neg]
    rintro ⟨carry, gone⟩
    have follows := (law.2.1 carry).2
    unfold State.followingActive at follows
    rw [slot] at follows
    obtain ⟨i, next, after⟩ := (Option.any_eq_true _ _).1 follows
    simp [next, kept i after] at gone
  · exact State.outputWithout_of_off _ on

theorem State.activeAt_addPending (granted : List SlotIndex) (k : SlotIndex) (s : State) :
    (s.addHoldings .pending granted).activeAt k = s.activeAt k := by
  have pending (l : List SlotIndex) : (l.map fun i => (⟨i, .pending⟩ : Holding)).any
      (fun h => h.slot == k && h.isActive) = false := by
    simp [Holding.isActive]
  simp [State.activeAt, State.addHoldings, List.any_append, pending]

theorem State.heldSlots_addPending (granted : List SlotIndex) (s : State) :
    (s.addHoldings .pending granted).heldSlots = s.heldSlots ++ granted := by
  have pending : (granted.map fun i => (⟨i, .pending⟩ : Holding)).filter Holding.held =
      granted.map fun i => ⟨i, .pending⟩ := by
    simp [List.filter_eq_self, Holding.held]
  simp [State.heldSlots, State.addHoldings, pending, Function.comp_def]

/-- The entries stay within the head's want, so that a surplus is of granted slots alone (R86, R89). -/
theorem State.surplus_granted {granted : List SlotIndex} {k : SlotIndex} (room : s.heldCount ≤ s.headWant)
    (h : k ∈ (s.addHoldings .pending granted).heldSlots.drop s.headWant) : k ∈ granted := by
  have none_held : s.heldSlots.drop s.headWant = [] := List.drop_eq_nil_of_le (s.length_heldSlots.trans_le room)
  rw [State.heldSlots_addPending, List.drop_append, none_held, List.nil_append] at h
  exact List.mem_of_mem_drop h

/-- A granted set taken as PENDING within the head's want (R100). -/
theorem State.takeGrant_of_room {granted : List SlotIndex} (quorate : s.quorate = true)
    (hold : s.planner.yieldHold = false) (law : s.OutputLaw) (room : s.heldCount ≤ s.headWant)
    (slots : ((s.addHoldings .pending granted).holdings.map Holding.slot).Nodup) : s.takeGrant granted =
      (s.withHoldings (demote s.headWant (s.addHoldings .pending granted).holdings)).withOutbox
        (s.outbox.queueRelease (slotSetOf ((s.addHoldings .pending granted).heldSlots.drop s.headWant))) := by
  have grown : (s.addHoldings .pending granted).OutputLaw :=
    law.of_eq rfl (fun k e slot => ⟨e, slot⟩) (fun k active => (s.activeAt_addPending granted k).trans active)
      (fun quorum => quorum) fun off => off
  have kept (k : SlotIndex) (active : (s.addHoldings .pending granted).activeAt k = true) :
      ((s.addHoldings .pending granted).heldSlots.drop s.headWant).contains k = false := by
    rw [State.activeAt_addPending] at active
    obtain ⟨h, here, at_k⟩ := List.any_eq_true.1 active
    rw [Bool.and_eq_true, beq_iff_eq] at at_k
    rw [← Bool.not_eq_true, List.contains_iff_mem]
    intro surplus
    have both : (s.holdings.map Holding.slot ++ granted).Nodup := by
      simpa [State.addHoldings, Function.comp_def] using slots
    exact (List.nodup_append.1 both).2.2 k (List.mem_map.2 ⟨h, here, at_k.1⟩) k (State.surplus_granted room surplus) rfl
  have taken : s.takeGrant granted = (s.addHoldings .pending granted).releaseSurplus s.headWant := by
    unfold State.takeGrant
    rw [if_neg (by simp [quorate]), if_neg (by simp [hold])]
    rfl
  have released := grown.releaseHoldings_eq fun i =>
    ((s.addHoldings .pending granted).heldSlots.drop s.headWant).contains i
  rw [State.releaseSurplus_entries _ _ slots, grown.outputWithout_of_kept kept, State.heldWhere,
    heldSlots_in_surplus _ _ (State.heldSlots_nodup slots)] at released
  exact taken.trans released

/-- Settles O38. -/
theorem ownClaimTakesItsGrant : Obligations.OwnClaimTakesItsGrant := by
  intro s u c sends after member beff giveBack
  subst after
  have run : exec (.claimComplete s.id c) s = .next (s.afterSent.ownClaimApplies c) :=
    congrArg Host.Outcome.next (State.complete_of_sends _ _ sends)
  refine ⟨s.map.admission s.beff s.id c.units c.slots, s.map.granted s.beff s.id c.units c.slots,
    SlotMap.granted_eq _ _ _ _ _, SlotMap.get_admission_granted _ _ _ _ _, ?_⟩
  intro v
  have taken : exec (.claimComplete s.id c) s = .next ((v.withMap (s.map.admission s.beff s.id c.units
      c.slots)).takeGrant (s.map.granted s.beff s.id c.units c.slots)) := by
    rw [run]
    unfold State.ownClaimApplies
    exact congrArg _ (if_pos (by exact member))
  have quorum (m : SlotMap) : (v.withMap m).quorate = s.quorate :=
    State.quorate_congr rfl (fun _ => rfl) rfl
  have back (x : SlotSet) (y : State) (same : y.outbox = s.afterSent.outbox) :
      y.queueRelease x = y.withOutbox (giveBack x) := by
    rw [State.queueRelease, Outbox.queueRelease_of_some, same]
  refine ⟨fun lost => ⟨(s.map.admission s.beff s.id c.units c.slots).release s.id
    (slotSetOf (s.map.granted s.beff s.id c.units c.slots)), SlotMap.get_release _ _ _, ?_⟩,
    fun quorate hold => ?_, fun quorate hold holdings amount output => ?_⟩
  · rw [taken]
    unfold State.takeGrant
    rw [if_pos ((quorum _).trans lost), back _ _ (by rfl)]
    rfl
  · rw [taken]
    unfold State.takeGrant
    rw [if_neg (by simp [quorum, quorate]), if_pos (by exact hold), back _ _ (by rfl)]
    rfl
  · intro held surplus
    have room : (v.withMap (s.map.admission s.beff s.id c.units c.slots)).heldCount ≤
      (v.withMap (s.map.admission s.beff s.id c.units c.slots)).headWant := amount.1
    have slots : (((v.withMap (s.map.admission s.beff s.id c.units c.slots)).addHoldings .pending
        (s.map.granted s.beff s.id c.units c.slots)).holdings.map Holding.slot).Nodup :=
      (State.HoldingLaw.grant (s := s) holdings .pending c.units c.slots member).1
    rw [taken, State.takeGrant_of_room ((quorum _).trans quorate) (by exact hold)
      (State.OutputLaw.of_blocks output rfl rfl rfl rfl rfl rfl) room slots]
    have filters : surplus = (((v.withMap (s.map.admission s.beff s.id c.units c.slots)).addHoldings .pending
        (s.map.granted s.beff s.id c.units c.slots)).heldSlots).drop s.headWant := by
      rw [State.heldSlots_eq]
      rfl
    have given (x : SlotSet) : giveBack x = s.afterSent.outbox.queueRelease x := (Outbox.queueRelease_of_some _ _).symm
    rw [filters, given]
    rfl

end Sys2Proof.Machine
end

section
/-!
PROOF. The Cycle Timer's events, the load output's points and the planning point (Sections 2, 5 and 7).
-/

namespace Sys2Proof.Machine

variable {s t u : State}

/-! ### Slots and the gap -/

/-- Settles O40. -/
theorem slotBoundaryBeginsTheNextSlot : Obligations.SlotBoundaryBeginsTheNextSlot := by
  intro k e s negated slot h u
  have next : nextSlot k = some ⟨k.val + 1, h⟩ := dif_pos h
  have first : (⟨k.val + 1, h⟩ : SlotIndex) = 1 ↔ k.val = 0 := by
    rw [Fin.ext_iff]
    simp
  have run : s.slotEnds = u.nextSlotBegins ⟨k.val + 1, h⟩ := by
    unfold State.slotEnds
    rw [slot]
    dsimp only
    rw [next]
  refine congrArg Host.Outcome.next ((State.unlessHeld_of_negated _ negated).trans (run.trans ?_))
  have station : u.member.station = s.member.station := State.station_pass _ s
  have output : u.output = s.output := by simp [u]
  rw [State.nextSlotBegins, State.outputSlotStart_eq, ← station, ← output]
  simp only [State.member_withTimer, State.output_withTimer, beq_eq_decide, first]

/-- The end of a cycle serves a counted head whose floor is met (R92). -/
theorem State.cycleEnd_eq (s : State) : s.cycleEnd =
    match s.demands with
    | [] => s
    | d :: ds =>
      if s.member.station = .member ∧ d.span ≠ 0 ∧ d.floor ≤ s.activeCount then
        if d.remaining ≤ 1 then ((s.withDemands ds).note (.done d.tag 0 .completed)).headChange
        else s.withDemands ({ d with remaining := d.remaining - 1 } :: ds)
      else s := by
  unfold State.cycleEnd
  cases s.demands with
  | nil => rfl
  | cons d ds =>
    refine if_ctx_congr Iff.rfl (fun served => ?_) fun _ => rfl
    unfold State.completeDemand
    by_cases last : d.remaining ≤ 1
    · rw [if_pos last]
      exact if_pos ⟨served.2.1, Nat.sub_eq_zero_of_le last⟩
    · rw [if_neg last]
      exact if_neg fun h => last (Nat.sub_eq_zero_iff_le.1 h.2)

theorem Outbox.mark_queueRelease (x : SlotSet) (o : Outbox) : (o.queueRelease x).mark = o.mark := by
  rw [(o.queueRelease_spec x).1]

theorem State.mark_headChange (s : State) : s.headChange.outbox.mark = s.outbox.mark := by
  simp [State.headChange, State.fitClaim_eq, State.releaseSurplus, State.outbox_releaseHoldings,
    Outbox.mark_queueRelease]

/-- The end of a cycle leaves a waiting MARK alone. -/
theorem State.mark_cycleEnd (s : State) : s.cycleEnd.outbox.mark = s.outbox.mark := by
  rw [State.cycleEnd_eq]
  split
  · rfl
  · split
    · split
      · rw [State.mark_headChange]
        simp
      · rfl
    · rfl

/-- Settles O43. -/
theorem gapEndsTheCycle : Obligations.GapEndsTheCycle := by
  refine ⟨fun e s negated slot => ?_, State.cycleEnd_eq⟩
  intro u v w
  have run : s.cycleRunsOut = u.gapBegins := by
    unfold State.cycleRunsOut
    rw [slot]
    exact if_pos rfl
  have station : w.member.station = s.member.station := by simp [w, v, u]
  have mark : w.outbox.mark = s.outbox.mark := (State.mark_cycleEnd v).trans (by simp [v, u])
  have cycle : u.timer.cycle = s.timer.cycle := by
    obtain ⟨h, -⟩ := s.pass_spec (s.slotTicks - e)
    exact h
  refine congrArg Host.Outcome.next ((State.unlessHeld_of_negated _ negated).trans (run.trans ?_))
  have begins : u.gapBegins = if w.member.station = .member then w.queueMark (s.timer.cycle + 1) else w := by
    rw [← cycle]
    simp only [w, v, ← cycle]
    rfl
  rw [begins, station, State.queueMark, Outbox.queueMark_eq, mark]

/-! ### The other timers -/

/-- Entry to LAPSED, every block spelled (R68). -/
theorem State.lapsed_eq (why : Cause) (s : State) : s.lapsed why =
    { s with
      map := SlotMap.cleared
      peers := PeerTable.cleared
      holdings := []
      outbox := Outbox.empty
      planner := ⟨false, [], false, 0, 0⟩
      output := ⟨.idle, false⟩
      demands := clearServed s.demands
      sag := { s.sag with derateRemaining := 0, windowOpen := false }
      line := { (⟨.idle, 0, true, false, .silent, none, 0, 0, 0⟩ : LineController) with
        awaitingIdle := s.line.awaitingIdle || s.line.rx != .idle
        closing := decide (s.line.rx = .frame ∧ (s.line.tx = .silent ∨ s.line.tx = .sending)) }
      timer := { s.timer with founding := 0 }
      member := { s.member with station := .lapsed, lapseWait := 0, exitCause := why } } := by
  have closing : (s.line.rx == .frame && (s.line.tx == .silent || s.line.tx == .sending)) =
      decide (s.line.rx = .frame ∧ (s.line.tx = .silent ∨ s.line.tx = .sending)) := by
    simp [Bool.decide_and, Bool.decide_or, beq_eq_decide]
  rw [← closing]
  simp only [State.lapsed, State.dropOut, State.outputOff, State.withMap, State.withPeers, State.withHoldings,
    State.withOutbox, State.withPlanner, State.withOutput, State.withDemands, State.withSag, State.withLine,
    State.withTimer, State.withMember]
  rfl

theorem State.enterLapsed_note (why : Cause) (s : State) :
    s.enterLapsed why = (s.lapsed why).note (.state .lapsed why 0) := by
  rw [State.enterLapsed_eq, State.noteState]
  rfl

/-- Settles O44. -/
theorem timersChangeTheStationState : Obligations.TimersChangeTheStationState := by
  intro s negated
  refine ⟨fun e a gap member => ?_, fun e a gap other => ?_, fun joining => ?_, fun lapsed => ?_⟩
  · intro u
    have run : s.markTimesOut = u.enterLapsed .lapsedLine := by
      unfold State.markTimesOut
      rw [gap]
      exact if_pos member
    refine congrArg Host.Outcome.next ((State.unlessHeld_of_negated _ negated).trans (run.trans ?_))
    have demands : u.demands = s.demands := by simp [u]
    rw [State.enterLapsed_note, State.lapsed_eq, demands]
  · refine congrArg Host.Outcome.next ((State.unlessHeld_of_negated _ negated).trans ?_)
    unfold State.markTimesOut
    rw [gap]
    exact if_neg other
  · intro u
    have run : s.foundingRunsOut = u.found := if_pos joining
    refine congrArg Host.Outcome.next ((State.unlessHeld_of_negated _ negated).trans (run.trans ?_))
    have live : (((u.withMember { u.member with station := .member, standing := 0 }).withTimer
        ⟨.inGap 0 0, 0, 0, false⟩).withOutbox { u.outbox.queueMark 0 with presence := true }).reportedLive =
          s.liveCount + 1 := by
      simp [State.reportedLive, State.onLine, State.liveCount, joining, u]
    have outbox : u.outbox = s.outbox := by simp [u]
    have found : u.found = (((u.withMember { u.member with station := .member, standing := 0 }).withTimer
        ⟨.inGap 0 0, 0, 0, false⟩).withOutbox { u.outbox.queueMark 0 with presence := true }).noteState .none := rfl
    rw [found, State.noteState, live, Outbox.queueMark_eq, ← outbox]
    rfl
  · intro u
    have run : s.lapseWaitRunsOut = u.enterJoining := if_pos lapsed
    refine congrArg Host.Outcome.next ((State.unlessHeld_of_negated _ negated).trans (run.trans ?_))
    have live : ((((u.withMember { u.member with station := .joining, joiningCount := 0, ownPresence := false }).withTimer
        { u.timer with founding := 0 }).withLine LineController.cleared).withOutbox
          { u.outbox with presence := true }).reportedLive =
            (allStations.filter fun p => (s.peers.get p).counts).length := by
      simp [State.reportedLive, State.onLine, State.liveCount, u]
    have outbox : u.outbox = s.outbox := by simp [u]
    have enters : u.enterJoining = ((((u.withMember
        { u.member with station := .joining, joiningCount := 0, ownPresence := false }).withTimer
          { u.timer with founding := 0 }).withLine LineController.cleared).withOutbox
            { u.outbox with presence := true }).noteState .none := rfl
    rw [enters, State.noteState, live, ← outbox]
    rfl

/-! ### The load output -/

theorem State.activeAt_iff (k : SlotIndex) (s : State) :
    s.activeAt k = true ↔ ∃ h ∈ s.holdings, h.slot = k ∧ h.state = .active := by
  simp [State.activeAt, Holding.isActive]

theorem nextSlot_eq_some (k j : SlotIndex) : nextSlot k = some j ↔ j.val = k.val + 1 := by
  unfold nextSlot
  split
  · next h => simp [Fin.ext_iff, eq_comm]
  · next h =>
    have := j.isLt
    simp
    omega

theorem State.carries_iff (k : SlotIndex) (s : State) : s.carries k = true ↔
    (s.member.station = .member ∧ s.cfg.quorum ≤ s.liveCount) ∧
      ∃ j : SlotIndex, j.val = k.val + 1 ∧ ∃ h ∈ s.holdings, h.slot = j ∧ h.state = .active := by
  simp only [State.carries, Bool.and_eq_true, State.quorate_iff, Option.any_eq_true, nextSlot_eq_some, State.activeAt_iff]

theorem State.quorate_pass (n : Nat) (s : State) : (s.pass n).quorate = s.quorate :=
  State.quorate_congr (by simp) (by simp) (State.station_pass n s)

/-- Settles O45. -/
theorem onAndTailPointsDecideTheOutput : Obligations.OnAndTailPointsDecideTheOutput := by
  intro k e s negated slot active quorate
  have on_run : exec .onPoint s = .next (if s.output.phase = .lead then (s.pass (s.guardTicks - e)).decideOn k else s) := by
    refine congrArg Host.Outcome.next ((State.unlessHeld_of_negated _ negated).trans ?_)
    unfold State.onPointComes
    rw [slot]
  have tail_run : exec .tailPoint s = .next (if s.output.phase = .on ∧ s.output.carry = false then
      (s.pass (s.slotTicks - s.guardTicks - e)).decideTail k else s) := by
    refine congrArg Host.Outcome.next ((State.unlessHeld_of_negated _ negated).trans ?_)
    unfold State.tailPointComes
    rw [slot]
  refine ⟨fun lead => ?_, fun other => on_run.trans (congrArg _ (if_neg other)), fun on fresh => ?_,
    fun other => tail_run.trans (congrArg _ (if_neg fun h => other h.1))⟩
  · intro u
    have decided : (u.quorate = true ∧ u.activeAt k = true) ↔ quorate ∧ active k := by
      have holdings : u.holdings = s.holdings := by simp [u]
      rw [State.quorate_pass, State.quorate_iff, State.activeAt_iff, holdings]
    have output : u.output = s.output := by simp [u]
    rw [on_run, if_pos lead, State.decideOn_eq, ← output]
    exact ⟨fun yes => congrArg (fun o => Host.Outcome.next (u.withOutput o)) (if_pos (decided.2 yes)),
      fun no => congrArg (fun o => Host.Outcome.next (u.withOutput o)) (if_neg (mt decided.1 no))⟩
  · intro u carried
    have decided : u.carries k = true ↔ carried := by
      have holdings : u.holdings = s.holdings := by simp [u]
      rw [State.carries_iff, ← State.quorate_iff, State.quorate_pass, State.quorate_iff, holdings]
    rw [tail_run, if_pos ⟨on, fresh⟩, State.decideTail_eq]
    exact ⟨fun yes => congrArg (fun o => Host.Outcome.next (u.withOutput o)) (if_pos (decided.2 yes)),
      fun no => congrArg (fun o => Host.Outcome.next (u.withOutput o)) (if_neg (mt decided.1 no))⟩

/-! ### The planning point -/

/-- The planning conditions of R94, one by one. -/
theorem State.mayPlan_iff (s : State) : s.mayPlan = true ↔
    s.quorate = true ∧ s.planner.claimOutstanding = false ∧ s.planner.yieldHold = false := by
  simp [State.mayPlan, and_assoc]

/-- What planning leaves of the Outbox and the planner (R94, R98). -/
theorem State.planClaim_eq (s : State) : ∃ o pl, s.planClaim = (s.withOutbox o).withPlanner pl ∧
    (∀ d ds, s.demands = d :: ds → s.mayPlan = true → s.picks d ≠ [] →
      o = { s.outbox with claim := some (slotSetOf (s.picks d)) } ∧
      pl = { s.planner with claimOutstanding := true, pickOrder := s.picks d }) ∧
    ((s.demands = [] ∨ s.mayPlan = false ∨ s.demands.head?.all (fun d => (s.picks d).isEmpty) = true) →
      o = s.outbox ∧ pl = s.planner) := by
  unfold State.planClaim
  cases s.demands with
  | nil =>
    refine ⟨s.outbox, s.planner, rfl, ?_, fun _ => ⟨rfl, rfl⟩⟩
    intro d ds h
    cases h
  | cons d ds =>
    by_cases plans : s.mayPlan = true ∧ s.picks d ≠ []
    · obtain ⟨may, picks⟩ := plans
      refine ⟨_, _, (if_pos may).trans (if_neg picks), fun d' ds' h _ _ => ?_, fun h => ?_⟩
      · cases h
        exact ⟨rfl, rfl⟩
      · simp [may, picks] at h
    · have idle : (if s.mayPlan = true then
          let picks := s.picks d
          if picks = [] then s
          else
            (s.withOutbox { s.outbox with claim := some (slotSetOf picks) }).withPlanner
              { s.planner with claimOutstanding := true, pickOrder := picks }
        else s) = s := by
        by_cases may : s.mayPlan = true
        · rw [if_pos may]
          exact if_pos (by simpa [may] using plans)
        · exact if_neg may
      refine ⟨s.outbox, s.planner, idle, fun d' ds' h may picks => ?_, fun _ => ⟨rfl, rfl⟩⟩
      cases h
      exact absurd ⟨may, picks⟩ plans

/-- The Snapshot Buffer after a latch (R159). -/
def State.latched (s : State) : SnapshotBuffer :=
  if s.snap.pending ∧ s.onLine then ⟨Table.ofFn s.summary, s.timer.cycle, true, false⟩ else s.snap

theorem State.latch_eq (s : State) : s.latch = s.withSnap s.latched := by
  unfold State.latch State.latched
  split <;> rfl

/-- Settles O41. -/
theorem planningPointPlansAndLatches : Obligations.PlanningPointPlansAndLatches := by
  intro e s negated slot due
  have run : exec .planningPoint s = .next (s.withTimer { s.timer with planningDue := false }).planClaim.latch := by
    refine congrArg Host.Outcome.next ((State.unlessHeld_of_negated _ negated).trans ?_)
    unfold State.planningPointComes
    rw [slot]
    exact if_pos ⟨rfl, due⟩
  obtain ⟨o, pl, planned, plans, idle⟩ := (s.withTimer { s.timer with planningDue := false }).planClaim_eq
  have latched := ((((s.withTimer { s.timer with planningDue := false }).withOutbox o).withPlanner pl)).latch_eq
  have may : (s.withTimer { s.timer with planningDue := false }).mayPlan = s.mayPlan := rfl
  rw [may] at plans idle
  refine ⟨o, pl, s.latched, run.trans (congrArg _ ((congrArg State.latch planned).trans latched)),
    fun d ds queue member quorum claim hold => plans d ds queue ?_, fun h => idle ?_, fun pending on => ?_, fun h => ?_⟩
  · exact s.mayPlan_iff.2 ⟨s.quorate_iff.2 ⟨member, quorum⟩, claim, hold⟩
  · rcases h with empty | lost | claim | hold | picks
    · exact .inl empty
    · exact .inr (.inl (by simp [State.mayPlan, lost]))
    · exact .inr (.inl (by simp [State.mayPlan, claim]))
    · exact .inr (.inl (by simp [State.mayPlan, hold]))
    · exact .inr (.inr picks)
  · have taken : s.latched = ⟨Table.ofFn s.summary, s.timer.cycle, true, false⟩ := if_pos ⟨pending, on⟩
    rw [taken]
    refine ⟨rfl, rfl, rfl, fun k => (Table.get_ofFn _ _).trans ?_⟩
    simp [State.summary, committed, orphanUnits, State.ownStateAt, HolderRecord.isLive]
  · refine if_neg fun both => ?_
    rcases h with none | off
    · exact absurd (none.symm.trans both.1) (by decide)
    · exact absurd (off.symm.trans both.2) (by decide)

end Sys2Proof.Machine
end

section
/-!
PROOF. The Line Controller's own events (Section 8).
-/

namespace Sys2Proof.Machine

variable {s t u : State}

/-! ### What passing time leaves of the line -/

/-- Passing time changes of the Line Controller its idle count, the wait for the first idle and the frame kept at a
lapse alone (R130). -/
theorem State.line_pass (n : Nat) (s : State) :
    (s.pass n).line.rx = s.line.rx ∧ (s.pass n).line.tx = s.line.tx ∧ (s.pass n).line.broken = s.line.broken ∧
    (s.pass n).line.attempts = s.line.attempts ∧ (s.pass n).line.clashes = s.line.clashes := by
  obtain ⟨-, -, -, -, line⟩ := s.pass_spec n
  rw [line]
  exact ⟨rfl, rfl, rfl, rfl, rfl⟩

/-- A line that is listened to and idle counts its idle time up to twelve bit times (R130). -/
theorem State.idleTime_pass (n : Nat) (listens : s.listens = true) (idle : s.line.rx = .idle) :
    (s.pass n).line.idleTime = min Config.idleTicks (s.line.idleTime + n) := by
  simp [State.pass, State.withLine, State.withSag, State.withMember, State.withTimer, State.listens, State.drives,
    runTimer] at *
  simp [listens, idle]

/-- What is next on offer does not change with time (R144). -/
theorem State.nextNotice_pass (n : Nat) (s : State) : (s.pass n).nextNotice = s.nextNotice := by
  have cfg : (s.pass n).cfg = s.cfg := State.cfg_congr (by simp)
  have derate : (s.pass n).sag.derateRemaining = s.sag.derateRemaining := by
    obtain ⟨-, -, -, sag, -⟩ := s.pass_spec n
    rw [sag]
  have priority : (s.pass n).priority = s.priority := by simp [State.priority]
  unfold State.nextNotice
  simp [cfg, derate, priority, State.quorate_pass]

/-! ### Attempts -/

/-- The notice in flight is the one that is ready; else the one on offer is taken into flight (R144). -/
theorem State.readyNotice_of_inFlight {n : Notice} (h : s.outbox.inFlight = some n) :
    s.readyNotice = some (s.outbox, s.line) := by
  simp [State.readyNotice, h]

theorem State.readyNotice_of_offers {n : Notice} {rest : Outbox} (grounded : s.outbox.inFlight = none)
    (h : s.Offers n rest) : s.readyNotice =
      some ({ rest with inFlight := some n }, { s.line with attempts := 0, clashes := 0 }) := by
  simp [State.readyNotice, grounded, State.nextNotice_spec.2 h]

theorem State.readyNotice_of_nothing (grounded : s.outbox.inFlight = none) (h : ∀ n rest, ¬ s.Offers n rest) :
    s.readyNotice = none := by
  simp [State.readyNotice, grounded, State.nextNotice_none.2 h]

theorem State.offers_pass (k : Nat) (n : Notice) (rest : Outbox) (s : State) :
    (s.pass k).Offers n rest ↔ s.Offers n rest := by
  rw [← State.nextNotice_spec, ← State.nextNotice_spec, State.nextNotice_pass]

/-- An attempt begins on a line with no broken attempt open (R144). -/
theorem State.beginAttempt_eq (o : Outbox) {l : LineController} (whole : l.broken = none) (s : State) :
    s.beginAttempt o l = (s.withOutbox o).withLine
      { l with rx := .frame, tx := .sending, idleTime := 0, awaitingIdle := false } := by
  rw [State.beginAttempt, ← whole]

/-- Settles O46. -/
theorem attemptTakesTheLowestKind : Obligations.AttemptTakesTheLowestKind := by
  intro s negated
  have run : exec .attemptStart s = .next s.attemptStarts :=
    congrArg Host.Outcome.next (State.unlessHeld_of_negated _ negated)
  refine ⟨fun busy => run.trans (congrArg _ (if_neg fun h => busy (s.line.free_iff.1 h.2).1)),
    fun drives idle silent whole => ?_⟩
  intro u begun
  have starts : s.attemptStarts = match u.readyNotice with
      | some (o, l) => u.beginAttempt o l
      | none => s :=
    if_pos ⟨drives, s.line.free_iff.2 ⟨idle, silent, whole⟩⟩
  obtain ⟨-, -, broken, attempts, clashes⟩ := s.line_pass (Config.idleTicks - s.line.idleTime)
  have outbox : u.outbox = s.outbox := by simp [u]
  have whole : u.line.broken = none := broken.trans whole
  rw [run, starts]
  refine ⟨fun n flies => ?_, fun grounded => ⟨fun n rest offers => ?_, fun nothing => ?_⟩⟩
  · rw [State.readyNotice_of_inFlight (outbox ▸ flies)]
    dsimp only
    rw [State.beginAttempt_eq _ whole, ← outbox, ← attempts, ← clashes]
  · rw [State.readyNotice_of_offers (outbox ▸ grounded) ((s.offers_pass _ n rest).2 offers)]
    dsimp only
    rw [State.beginAttempt_eq _ (by exact whole)]
  · rw [State.readyNotice_of_nothing (outbox ▸ grounded) fun n rest h => nothing n rest ((s.offers_pass _ n rest).1 h)]

/-- Settles O47. -/
theorem startPulseIsReceivedOrJoined : Obligations.StartPulseIsReceivedOrJoined := by
  intro early s negated
  have run : exec (.frameReceptionBegin early) s = .next (s.startPulse early) :=
    congrArg Host.Outcome.next (State.unlessHeld_of_negated _ negated)
  refine ⟨fun busy => run.trans (congrArg _ (if_neg fun h => busy (s.line.free_iff.1 h.2).1)),
    fun listens idle silent whole within before => ?_⟩
  intro u received joined
  have pulse : s.startPulse early =
      if u.line.awaitingIdle then u.withLine { u.line with idleTime := 0 }
      else if u.drives ∧ Config.idleTicks - u.line.idleTime ≤ Config.joinTicks then
        match u.readyNotice with
        | some (o, l) => u.beginAttempt o l
        | none => u.withLine { u.line with rx := .frame, idleTime := 0 }
      else u.withLine { u.line with rx := .frame, idleTime := 0 } :=
    if_pos ⟨listens, s.line.free_iff.2 ⟨idle, silent, whole⟩⟩
  obtain ⟨-, -, broken, attempts, clashes⟩ := s.line_pass (Config.idleTicks - early - s.line.idleTime)
  have outbox : u.outbox = s.outbox := by simp [u]
  have whole : u.line.broken = none := broken.trans whole
  have left : Config.idleTicks - u.line.idleTime = early := by
    rw [State.idleTime_pass _ listens idle]
    omega
  rw [left, State.drives_pass] at pulse
  refine ⟨fun waits => run.trans (congrArg _ (pulse.trans (if_pos waits))), fun past => ?_⟩
  rw [if_neg (by simp [past])] at pulse
  refine ⟨fun far => ?_, fun grounded nothing => ?_, fun drives near => ⟨fun flies => ?_, fun grounded n rest offers => ?_⟩⟩
  · refine run.trans (congrArg _ (pulse.trans (if_neg fun h => ?_)))
    rcases far with silent | far
    · exact absurd (silent.symm.trans h.1) (by decide)
    · exact absurd h.2 (Nat.not_le.2 far)
  · refine run.trans (congrArg _ (pulse.trans ?_))
    rw [State.readyNotice_of_nothing (outbox ▸ grounded) fun n rest h => nothing n rest ((s.offers_pass _ n rest).1 h)]
    exact ite_self _
  · obtain ⟨n, flies⟩ := Option.isSome_iff_exists.1 flies
    refine run.trans (congrArg _ (pulse.trans ((if_pos ⟨drives, near⟩).trans ?_)))
    rw [State.readyNotice_of_inFlight (outbox ▸ flies)]
    dsimp only
    rw [State.beginAttempt_eq _ whole, ← outbox, ← attempts, ← clashes]
  · refine run.trans (congrArg _ (pulse.trans ((if_pos ⟨drives, near⟩).trans ?_)))
    rw [State.readyNotice_of_offers (outbox ▸ grounded) ((s.offers_pass _ n rest).2 offers)]
    dsimp only
    rw [State.beginAttempt_eq _ (by exact whole)]

end Sys2Proof.Machine
end

section
/-!
PROOF. Receive errors, mismatches and BREAKs, and the failures that follow their counts (Sections 8.3 to 8.6).
-/

namespace Sys2Proof.Machine

variable {s t u : State}

/-! ### What a receive error is -/

/-- The errors of R134, with the times in periods of 125 ns. -/
theorem isReceiveError_iff (e : ReceiveError) : isReceiveError e = true ↔
    match e with
    | .edge t => t < 80 ∨ 240 < t
    | .dominant t => 160 < t ∧ t ≤ 320
    | .truncated bits => judge bits = .incomplete
    | .gapEdge => True
    | .frame bits => judge bits = .badLength ∨ judge bits = .badKey ∨ judge bits = .badPayload ∨
        judge bits = .badCheck := by
  cases e with
  | edge t =>
    simp only [isReceiveError, Bool.or_eq_true, decide_eq_true_eq, show Config.bitTicks = 160 from rfl]
    omega
  | dominant t => simp [isReceiveError, show Config.bitTicks = 160 from rfl]
  | truncated bits => simp [isReceiveError]
  | gapEdge => simp [isReceiveError]
  | frame bits =>
    unfold isReceiveError
    cases judged : judge bits <;> simp [judged]

/-! ### Line events -/

theorem State.breakEnds_of_own {b : Bool} (h : s.line.tx = .breaking b) : s.breakEnds =
    (let t := s.withLine { s.line with
      rx := .idle, idleTime := 0, tx := .silent
      receiveFaults := if b then min Config.receiveFaultLimit (s.line.receiveFaults + 1) else s.line.receiveFaults }
    if b then t.receiveFaultIfDue else t) := by
  unfold State.breakEnds
  rw [h]

theorem State.breakEnds_of_other (h : ∀ b, s.line.tx ≠ .breaking b) : s.breakEnds =
    if s.listens ∧ s.line.rx = .brk then s.withLine { s.line with rx := .idle, idleTime := 0 } else s := by
  unfold State.breakEnds
  split
  · next b own => exact absurd own (h b)
  · rfl

theorem State.breakSeen_eq (listens : s.listens = true) : s.breakSeen = s.withLine (
    if s.line.tx = .sending then
      { s.line with rx := .brk, closing := false, tx := .silent, broken := some false }
    else { s.line with rx := .brk, closing := false }) := by
  unfold State.breakSeen
  rw [if_pos listens]
  cases s.line.tx <;> rfl

/-- Settles O48: the errors by `isReceiveError_iff`, the events one by one. -/
theorem lineEventsMoveTheController : Obligations.LineEventsMoveTheController := by
  refine ⟨isReceiveError_iff, fun s negated => ?_⟩
  have run {f : State → State} {y : State} (h : f s = y) : s.unlessHeld f = y :=
    (State.unlessHeld_of_negated _ negated).trans h
  refine ⟨fun sending => ⟨congrArg Host.Outcome.next (run (if_pos sending)), fun sent read back differ => ?_⟩,
    fun err frame silent => ⟨fun error drives => ?_, fun error lapsed => ?_, fun fine => ?_⟩, fun own => ?_, fun own => ?_,
    fun other => ?_, fun listens => congrArg Host.Outcome.next (run (State.breakSeen_eq listens))⟩
  · have clash : isClash sent read back = (sent && back) := by
      cases sent <;> cases read <;> simp_all [isClash]
    rw [← clash]
    exact congrArg Host.Outcome.next (run (if_pos ⟨sending, differ⟩))
  · have hears : s.line.hearing = true := s.line.hearing_iff.2 ⟨.inl frame, silent⟩
    exact congrArg Host.Outcome.next (run ((if_pos ⟨hears, error⟩).trans (if_pos drives)))
  · have hears : s.line.hearing = true := s.line.hearing_iff.2 ⟨.inl frame, silent⟩
    have idle : s.drives = false := by simp [State.drives, lapsed]
    have listens : s.listens = true := by simp [State.listens, lapsed]
    exact congrArg Host.Outcome.next (run ((if_pos ⟨hears, error⟩).trans ((if_neg (by simp [idle])).trans (if_pos listens))))
  · exact congrArg Host.Outcome.next (run (if_neg fun h => absurd (fine.symm.trans h.2) (by decide)))
  · exact congrArg Host.Outcome.next (run ((State.breakEnds_of_own own).trans (if_neg (by decide))))
  · intro n t
    refine congrArg Host.Outcome.next (run ((State.breakEnds_of_own own).trans ((if_pos rfl).trans ?_)))
    have limit : (s.onLine = true ∧ Config.receiveFaultLimit ≤ n) ↔ (s.onLine = true ∧ n = 16) :=
      and_congr_right fun _ => ⟨fun h => le_antisymm (Nat.min_le_left _ _) h, fun h => h.ge⟩
    exact if_congr limit rfl rfl
  · exact congrArg Host.Outcome.next (run (State.breakEnds_of_other other))

/-! ### Attempts that end in BREAK, and failures -/

/-- What follows the failure of a MARK (Table 8-2). -/
theorem State.failIfDue_of_inFlight {n : Notice} (flies : s.outbox.inFlight = some n)
    (due : Config.attemptLimit ≤ s.line.attempts) : s.failIfDue = s.endFlight.failureRule n := by
  unfold State.failIfDue
  rw [flies]
  exact if_pos due

theorem State.failIfDue_of_early (early : s.line.attempts < Config.attemptLimit) : s.failIfDue = s := by
  unfold State.failIfDue
  split
  · exact if_neg (Nat.not_le.2 early)
  · rfl

theorem State.attemptBreaks_of_broken {n : Notice} {clash : Bool} (flies : s.outbox.inFlight = some n)
    (broken : s.line.broken = some clash) : s.attemptBreaks = s.attemptEndsInBreak clash := by
  unfold State.attemptBreaks
  rw [flies, broken]

theorem State.attemptBreaks_of_whole {n : Notice} (flies : s.outbox.inFlight = some n)
    (whole : s.line.broken = none) (sending : s.line.tx = .sending) : s.attemptBreaks =
      (s.withLine { s.line with rx := .brk, tx := .silent }).attemptEndsInBreak false := by
  unfold State.attemptBreaks
  rw [flies, whole]
  exact if_pos sending

theorem State.failIfDue_of_nothing (grounded : s.outbox.inFlight = none) : s.failIfDue = s := by
  unfold State.failIfDue
  rw [grounded]

/-- A row of the controller that no RSTN and no own BREAK holds off (R61, R135). -/
theorem State.unlessHeld_unlessBreaking {f : State → State} {y : State} (negated : s.rstn = false)
    (other : ∀ b, s.line.tx ≠ .breaking b) (h : f s = y) : s.unlessHeld (fun s => s.unlessBreaking f) = y :=
  (State.unlessHeld_of_negated _ negated).trans ((State.unlessBreaking_of_not_breaking f other).trans h)

/-- The line of a counted attempt (R137, R139). -/
def State.countAttempt (clash : Bool) (s : State) : State := s.withLine { s.line with
  broken := none
  attempts := min 4 (s.line.attempts + 1)
  clashes := if clash then min 2 (s.line.clashes + 1) else 0 }

theorem State.attemptEndsInBreak_eq (clash : Bool) (s : State) :
    s.attemptEndsInBreak clash = (s.countAttempt clash).clashFaultIfDue.failIfDue :=
  rfl

theorem State.attemptEndsInBreak_of_clash (clashes : 1 ≤ s.line.clashes) (on : s.onLine = true) :
    s.attemptEndsInBreak true = (s.countAttempt true).enterFaulted .faultDuplicate := by
  have second : Config.clashLimit ≤ (s.countAttempt true).line.clashes := by
    simp only [State.countAttempt, State.line_withLine, show Config.clashLimit = 2 from rfl, if_true]
    omega
  have fault : (s.countAttempt true).clashFaultIfDue = (s.countAttempt true).enterFaulted .faultDuplicate :=
    if_pos ⟨on, second⟩
  rw [State.attemptEndsInBreak_eq, fault, State.failIfDue_of_nothing]
  rw [State.enterFaulted_note, State.faulted_eq]
  simp [Outbox.empty]

theorem State.attemptEndsInBreak_of_clear {clash : Bool}
    (clear : clash = false ∨ s.line.clashes = 0 ∨ s.onLine = false) :
    s.attemptEndsInBreak clash = (s.countAttempt clash).failIfDue := by
  have none : (s.countAttempt clash).clashFaultIfDue = s.countAttempt clash := by
    refine if_neg fun h => ?_
    obtain ⟨on, second⟩ := h
    have online : s.onLine = true := on
    simp only [State.countAttempt, State.line_withLine, show Config.clashLimit = 2 from rfl] at second
    rcases clear with rfl | first | off
    · simp at second
    · rw [first] at second
      split at second <;> omega
    · exact absurd (off.symm.trans online) (by decide)
  rw [State.attemptEndsInBreak_eq, none]

/-- Settles O49. -/
theorem failuresFollowTheirCounts : Obligations.FailuresFollowTheirCounts := by
  intro s negated flown counted
  have run {f : State → State} {y : State} (h : f s = y) : s.unlessHeld f = y :=
    (State.unlessHeld_of_negated _ negated).trans h
  refine ⟨fun b own => ?_, fun other => ?_⟩
  · have breaking (f : State → State) : s.unlessHeld (fun s => s.unlessBreaking f) = s :=
      run (State.unlessBreaking_of_breaking f own)
    exact ⟨congrArg _ (breaking _), congrArg _ (breaking _), congrArg _ (breaking _), congrArg _ (breaking _)⟩
  have goes {f : State → State} {y : State} (h : f s = y) : s.unlessHeld (fun s => s.unlessBreaking f) = y :=
    State.unlessHeld_unlessBreaking negated other h
  refine ⟨fun n clash flies broken => ⟨fun clashes before on => ?_, fun clear => ⟨fun early => ?_, fun fourth => ?_⟩⟩,
    fun n flies whole sending => ?_, fun due => ?_, fun on clashes => ?_, fun on faults => ?_⟩
  · subst clashes
    exact congrArg Host.Outcome.next (goes ((State.attemptBreaks_of_broken flies broken).trans
      (State.attemptEndsInBreak_of_clash before on)))
  · refine congrArg Host.Outcome.next (goes ((State.attemptBreaks_of_broken flies broken).trans
      ((State.attemptEndsInBreak_of_clear clear).trans (State.failIfDue_of_early ?_))))
    show min 4 (s.line.attempts + 1) < 4
    omega
  · have there : exec .transmitFailure (counted clash) = .next (counted clash).failIfDue :=
      congrArg Host.Outcome.next (State.unlessHeld_unlessBreaking (s := counted clash) negated other rfl)
    rw [there]
    exact congrArg Host.Outcome.next (goes ((State.attemptBreaks_of_broken flies broken).trans
      (State.attemptEndsInBreak_of_clear clear)))
  · have there : exec .attemptBroken (s.withLine { s.line with rx := .brk, tx := .silent, broken := some false }) =
        .next ((s.withLine { s.line with rx := .brk, tx := .silent, broken := some false }).attemptEndsInBreak false) :=
      congrArg Host.Outcome.next (State.unlessHeld_unlessBreaking
        (s := s.withLine { s.line with rx := .brk, tx := .silent, broken := some false }) negated (fun b => nofun)
          (State.attemptBreaks_of_broken (by exact flies) rfl))
    rw [there]
    exact congrArg Host.Outcome.next (goes (State.attemptBreaks_of_whole flies whole sending))
  · have fails {n : Notice} {y : State} (flies : s.outbox.inFlight = some n) (h : flown.failureRule n = y) :
        exec .transmitFailure s = .next y :=
      congrArg Host.Outcome.next (goes ((State.failIfDue_of_inFlight flies due).trans h))
    refine ⟨fun m flies => fails flies ?_, fun flies => fails flies rfl, fun t x flies => fails flies rfl,
      fun x flies some_slot => fails flies ?_, fun flies => fails flies rfl, fun f flies => fails flies rfl,
      fun c flies => fails flies rfl⟩
    · show (match s.timer.phase, s.member.station with
        | .inGap _ a, .member => flown.queueMark a
        | _, _ => flown) = _
      cases s.timer.phase with
      | inGap e a =>
        have queued : flown.queueMark a = flown.withOutbox
            { flown.outbox with mark := some (s.outbox.mark.getD a) } := by
          rw [State.queueMark, Outbox.queueMark_eq]
          rfl
        cases s.member.station with
        | member => exact queued
        | _ => rfl
      | _ => rfl
    · refine if_congr Iff.rfl ?_ rfl
      rw [State.queueRelease, Outbox.queueRelease_of_some, if_neg some_slot]
      rfl
  · exact congrArg Host.Outcome.next (goes (if_pos ⟨on, clashes⟩))
  · exact congrArg Host.Outcome.next (goes (if_pos ⟨on, faults⟩))

end Sys2Proof.Machine
end

section
/-!
PROOF. The order of a mark's parts, and the silence counts in one step (Sections 2.4 and 3.5).
-/

namespace Sys2Proof.Machine

variable {s t u : State}

/-! ### The order of the parts -/

theorem mem_firstMentions (p : MarkPart) (l : List MarkPart) : p ∈ firstMentions l ↔ p ∈ l := by
  induction l with
  | nil => simp [firstMentions]
  | cons q l ih =>
    by_cases h : p = q <;> simp [firstMentions, ih, h]

theorem nodup_firstMentions (l : List MarkPart) : (firstMentions l).Nodup := by
  induction l with
  | nil => exact List.nodup_nil
  | cons q l ih =>
    refine List.nodup_cons.2 ⟨fun h => ?_, ih.filter _⟩
    simpa using (List.mem_filter.1 h).2

/-- Every part of a mark is taken, and once. -/
theorem mem_markOrder (order : List MarkPart) (p : MarkPart) : p ∈ markOrder order := by
  rw [markOrder, mem_firstMentions, List.mem_append]
  right
  cases p <;> decide

theorem nodup_markOrder (order : List MarkPart) : (markOrder order).Nodup := nodup_firstMentions _

/-- Where a part stands, the others stand before or behind it. -/
theorem markOrder_split (order : List MarkPart) (p : MarkPart) : ∃ a b, markOrder order = a ++ p :: b ∧
    p ∉ a ∧ p ∉ b ∧ a.Nodup ∧ b.Nodup ∧ ∀ q, q ≠ p → (q ∈ a ↔ q ∉ b) := by
  obtain ⟨a, b, split⟩ := List.append_of_mem (mem_markOrder order p)
  have once := split ▸ nodup_markOrder order
  have every (q : MarkPart) : q ∈ a ++ p :: b := split ▸ mem_markOrder order q
  rw [List.nodup_append] at once
  obtain ⟨ha, hb, apart⟩ := once
  obtain ⟨notb, hb⟩ := List.nodup_cons.1 hb
  refine ⟨a, b, split, fun h => apart p h p (by simp) rfl, notb, ha, hb, fun q hq => ⟨fun inA inB => ?_, fun out => ?_⟩⟩
  · exact apart q inA q (by simp [inB]) rfl
  · simpa [hq, out] using every q

/-- The parts of a mark before and behind the silence counts. -/
structure Parted (a b : List MarkPart) : Prop where
  before : a.Nodup
  behind : b.Nodup
  notBefore : .silence ∉ a
  notBehind : .silence ∉ b
  sides : ∀ q, q ≠ .silence → (q ∈ a ↔ q ∉ b)

theorem markOrder_parted (order : List MarkPart) : ∃ a b, markOrder order = a ++ .silence :: b ∧ Parted a b := by
  obtain ⟨a, b, split, na, nb, ha, hb, sides⟩ := markOrder_split order .silence
  exact ⟨a, b, split, ha, hb, na, nb, sides⟩

/-- Every other part is taken before the silence counts or behind them, and once. -/
theorem Parted.once {a b : List MarkPart} (h : Parted a b) {q : MarkPart} (ne : q ≠ .silence) :
    (q ∈ a ∧ q ∉ b) ∨ (q ∉ a ∧ q ∈ b) := by
  have sides := h.sides q ne
  by_cases inA : q ∈ a
  · exact .inl ⟨inA, sides.1 inA⟩
  · exact .inr ⟨inA, by simpa using mt sides.2 inA⟩

/-! ### Stations off the line -/

theorem State.station_of_off (off : s.onLine = false) :
    s.member.station ≠ .member ∧ s.member.station ≠ .joining := by
  constructor <;> intro h <;> simp [State.onLine, h] at off

/-- A station that is neither JOINING nor MEMBER takes no part of a mark (R74). -/
theorem State.markPart_of_off (m : MarkFields) (dup : Bool) (was : StationState) (al : Bool)
    (off : s.onLine = false) (p : MarkPart) : s.markPart m dup was al p = s := by
  obtain ⟨notMember, notJoining⟩ := State.station_of_off off
  have off' : ¬ s.onLine = true := by simp [off]
  cases p with
  | agreement | duplicateId => exact if_neg fun h => off' h.1
  | standing => exact if_neg fun h => notMember h.2
  | joining => exact if_neg notJoining
  | silence =>
    cases dup with
    | true => rfl
    | false => exact if_neg off'
  | orphans =>
    cases dup with
    | true => rfl
    | false => exact if_neg off'
  | promotion => exact if_neg notMember
  | localHold | derate => exact if_neg off'
  | sagExtension => exact if_neg fun h => off' h.1
  | presence =>
    cases dup with
    | true => rfl
    | false => exact if_neg fun h => off' h.1

theorem State.markParts_of_off (m : MarkFields) (dup : Bool) (was : StationState) (al : Bool)
    (off : s.onLine = false) (l : List MarkPart) : l.foldl (fun s p => s.markPart m dup was al p) s = s := by
  induction l with
  | nil => rfl
  | cons p l ih => rw [List.foldl_cons, State.markPart_of_off m dup was al off, ih]

/-! ### The silence counts in one step (R50, R51) -/

/-- A peer whose silence count has reached E is dealt with, whether it is LIVE or ABSENT, less the live count. -/
def State.dealWith (p : StationId) (s : State) : State :=
  if p ≠ s.id ∧ s.cfg.expiry ≤ (s.peers.get p).silence then
    (s.withPeers (s.peers.set p { s.peers.get p with live := false, silence := 0 })).withMap
      (s.map.orphan p s.timer.cycle s.cfg.expiry)
  else s

theorem State.dealWith_eq (p : StationId) (s : State) :
    s.dealWith p = (s.withPeers (s.dealWith p).peers).withMap (s.dealWith p).map := by
  unfold State.dealWith
  split <;> rfl

theorem State.afterLive_of_le {n : Nat} (h : s.liveCount < s.cfg.quorum → n < s.cfg.quorum) : s.afterLive n = s := by
  unfold State.afterLive
  exact if_neg fun lost => absurd (h lost.2.2) (Nat.not_lt.2 lost.2.1)

/-- Expiry of a LIVE peer and the orphaning of an ABSENT one as one step (R50, R51). -/
theorem State.dealtWith_eq (p : StationId) (on : s.onLine = true) (positive : 0 < s.cfg.expiry) :
    (s.expirePeer p).orphanAbsent p = (s.dealWith p).afterLive s.liveCount := by
  by_cases due : p ≠ s.id ∧ s.cfg.expiry ≤ (s.peers.get p).silence
  · cases live : (s.peers.get p).live with
    | true =>
      have dealt : s.expirePeer p = (s.dealWith p).afterLive s.liveCount := by
        unfold State.expirePeer State.dealWith
        rw [if_pos ⟨on, due.1, live, due.2⟩, if_pos due]
        rfl
      have again : (s.expirePeer p).orphanAbsent p = s.expirePeer p := by
        refine if_neg fun h => ?_
        have cfg : (s.expirePeer p).cfg = s.cfg := State.cfg_congr (by simp)
        have fresh : ((s.expirePeer p).peers.get p).silence = 0 := by
          rw [dealt]
          simp [State.dealWith, due]
        rw [cfg, fresh] at h
        omega
      rw [again, dealt]
    | false =>
      have expires : s.expirePeer p = s := if_neg fun h => absurd (live.symm.trans h.2.2.1) (by decide)
      have dealt : s.orphanAbsent p = s.dealWith p := by
        unfold State.orphanAbsent State.dealWith
        rw [if_pos ⟨on, due.1, live, due.2⟩, if_pos due, ← live]
      have count : (s.dealWith p).liveCount = s.liveCount := by
        refine State.liveCount_congr (fun q => ?_) (by rw [State.dealWith_eq]; rfl)
        unfold State.dealWith
        rw [if_pos due]
        by_cases same : q = p
        · simp [same, PeerEntry.counts, live]
        · simp [same]
      rw [expires, dealt, State.afterLive_of_le]
      rw [count, State.cfg_congr (t := s.dealWith p) (s := s) (by rw [State.dealWith_eq]; rfl)]
      exact fun h => h
  · have expires : s.expirePeer p = s := if_neg fun h => due ⟨h.2.1, h.2.2.2⟩
    have orphans : s.orphanAbsent p = s := if_neg fun h => due ⟨h.2.1, h.2.2.2⟩
    have dealt : s.dealWith p = s := if_neg due
    rw [expires, orphans, dealt, State.afterLive_of_le fun h => h]

/-- What dealing with a peer leaves alone. -/
theorem State.dealWith_frame (p : StationId) (s : State) :
    (s.dealWith p).id = s.id ∧ (s.dealWith p).setup = s.setup ∧ (s.dealWith p).timer = s.timer ∧
    (s.dealWith p).member = s.member := by
  rw [State.dealWith_eq]
  exact ⟨rfl, rfl, rfl, rfl⟩

theorem State.peers_dealWith (p q : StationId) (s : State) : (s.dealWith p).peers.get q =
    if q = p ∧ p ≠ s.id then (s.peers.get q).expired s.cfg.expiry else s.peers.get q := by
  unfold State.dealWith PeerEntry.expired
  by_cases same : q = p
  · subst same
    by_cases due : q ≠ s.id ∧ s.cfg.expiry ≤ (s.peers.get q).silence
    · simp [due]
    · by_cases own : q = s.id
      · simp [own]
      · have early : ¬ s.cfg.expiry ≤ (s.peers.get q).silence := fun h => due ⟨own, h⟩
        simp [early]
  · split <;> simp [same]

/-- The live count only falls as peers are dealt with (R56). -/
theorem State.liveCount_dealWith_le (p : StationId) (s : State) : (s.dealWith p).liveCount ≤ s.liveCount := by
  obtain ⟨-, -, -, member⟩ := s.dealWith_frame p
  unfold State.liveCount
  rw [member]
  refine Nat.add_le_add_right (List.Sublist.length_le (List.monotone_filter_right _ fun q => ?_)) _
  rw [State.peers_dealWith]
  intro counts
  split at counts
  · unfold PeerEntry.expired at counts
    split at counts
    · simp [PeerEntry.counts] at counts
    · exact counts
  · exact counts

/-- A quorum loss and a step that changes the Peer Table and others' records alone exchange. -/
theorem State.quorumLoss_tables (P : PeerTable) (M M' : SlotMap) (own : M.removeLiveOf s.id = M') :
    ((s.withPeers P).withMap M).quorumLoss = (s.quorumLoss.withPeers P).withMap M' := by
  rw [State.quorumLoss_eq, State.quorumLoss_eq, State.quorumDropped_eq, State.quorumDropped_eq, ← own]
  rfl

theorem removeLive_orphanRecords {p q : StationId} (other : p ≠ q) (c : CycleNumber) (n : Nat) (e : SlotEntry) :
    removeLive q (orphanRecords p c n e) = orphanRecords p c n (removeLive q e) := by
  unfold removeLive orphanRecords
  rw [List.filter_map]
  congr 1
  refine List.filter_congr fun r _ => ?_
  have station : (if (r.station == p && r.isLive) = true then { r with orphan := some ⟨c, n⟩ } else r).station = r.station := by
    split <;> rfl
  by_cases hp : r.station = p
  · have hq : r.station ≠ q := fun h => other (hp.symm.trans h)
    simp only [Function.comp_apply, station, beq_eq_false_iff_ne.2 hq, Bool.false_and]
  · simp [hp]

theorem State.quorumLoss_dealWith (p : StationId) (s : State) : s.quorumLoss.dealWith p = (s.dealWith p).quorumLoss := by
  have frame := s.quorumLoss_frame
  obtain ⟨-, -, hid, setup, -, timer, peers, -⟩ := frame
  have map : s.quorumLoss.map = s.map.removeLiveOf s.id := by
    rw [State.quorumLoss_eq, State.quorumDropped_eq]
    rfl
  unfold State.dealWith
  rw [hid, peers, State.cfg_congr setup, timer, map]
  by_cases due : p ≠ s.id ∧ s.cfg.expiry ≤ (s.peers.get p).silence
  · rw [if_pos due, if_pos due]
    refine (State.quorumLoss_tables _ _ _ ?_).symm
    ext k
    simp [removeLive_orphanRecords due.1]
  · rw [if_neg due, if_neg due]

/-- The listed peers dealt with one after another, less the live count. -/
abbrev State.dealAll (ps : List StationId) (s : State) : State := ps.foldl (fun s p => s.dealWith p) s

theorem State.dealAll_frame (ps : List StationId) (s : State) :
    (s.dealAll ps).id = s.id ∧ (s.dealAll ps).setup = s.setup ∧ (s.dealAll ps).timer = s.timer ∧
    (s.dealAll ps).member = s.member := by
  induction ps generalizing s with
  | nil => exact ⟨rfl, rfl, rfl, rfl⟩
  | cons p ps ih =>
    obtain ⟨hid, setup, timer, member⟩ := ih (s.dealWith p)
    obtain ⟨hid', setup', timer', member'⟩ := s.dealWith_frame p
    exact ⟨hid.trans hid', setup.trans setup', timer.trans timer', member.trans member'⟩

theorem State.liveCount_dealAll_le (ps : List StationId) (s : State) : (s.dealAll ps).liveCount ≤ s.liveCount := by
  induction ps generalizing s with
  | nil => exact le_rfl
  | cons p ps ih => exact (ih _).trans (s.liveCount_dealWith_le p)

theorem State.quorumLoss_dealAll (ps : List StationId) (s : State) :
    s.quorumLoss.dealAll ps = (s.dealAll ps).quorumLoss := by
  induction ps generalizing s with
  | nil => rfl
  | cons p ps ih => rw [State.dealAll, List.foldl_cons, State.quorumLoss_dealWith]; exact ih (s.dealWith p)

/-- The live count handed on falls below Q at a MEMBER, or does not (R56). -/
theorem State.afterLive_congr {n k : Nat} (h : s.member.station = .member → s.liveCount < s.cfg.quorum →
    (s.cfg.quorum ≤ n ↔ s.cfg.quorum ≤ k)) : s.afterLive n = s.afterLive k := by
  unfold State.afterLive
  refine if_congr ⟨fun ⟨m, q, l⟩ => ⟨m, (h m l).1 q, l⟩, fun ⟨m, q, l⟩ => ⟨m, (h m l).2 q, l⟩⟩ rfl rfl

/-- Every listed peer dealt with, and then the live count handed on once (R51, R56). -/
theorem State.dealtWith_all (ps : List StationId) (on : s.onLine = true) (positive : 0 < s.cfg.expiry) :
    ps.foldl (fun s p => (s.expirePeer p).orphanAbsent p) s = (s.dealAll ps).afterLive s.liveCount := by
  induction ps generalizing s with
  | nil => exact (State.afterLive_of_le fun h => h).symm
  | cons p ps ih =>
    obtain ⟨-, setup, -, member⟩ := s.dealWith_frame p
    obtain ⟨-, setup', -, member'⟩ := (s.dealWith p).dealAll_frame ps
    have cfg : (s.dealWith p).cfg = s.cfg := State.cfg_congr setup
    have cfg' : ((s.dealWith p).dealAll ps).cfg = s.cfg := (State.cfg_congr setup').trans cfg
    have on' : (s.dealWith p).onLine = true := by rwa [State.onLine, member]
    have fewer := (s.dealWith p).liveCount_dealAll_le ps
    rw [List.foldl_cons, State.dealtWith_eq p on positive, State.dealAll, List.foldl_cons]
    by_cases lost : s.member.station = .member ∧ s.cfg.quorum ≤ s.liveCount ∧ (s.dealWith p).liveCount < s.cfg.quorum
    · obtain ⟨isMember, before, after⟩ := lost
      have frame := (s.dealWith p).quorumLoss_frame
      have here : (s.dealWith p).afterLive s.liveCount = (s.dealWith p).quorumLoss :=
        if_pos (by rw [member, cfg]; exact ⟨isMember, before, after⟩)
      have there : ((s.dealWith p).dealAll ps).afterLive s.liveCount = ((s.dealWith p).dealAll ps).quorumLoss :=
        if_pos (by rw [member', member, cfg']; exact ⟨isMember, before, fewer.trans_lt after⟩)
      have cfg'' : (s.dealWith p).quorumLoss.cfg = s.cfg := (State.cfg_congr (by simp)).trans cfg
      have count : (s.dealWith p).quorumLoss.liveCount = (s.dealWith p).liveCount :=
        State.liveCount_congr (by simp) (by simp)
      rw [here, there, ih (by simpa [State.onLine] using on') (cfg'' ▸ positive), State.quorumLoss_dealAll]
      refine State.afterLive_of_le fun _ => ?_
      rw [count, State.cfg_congr (t := ((s.dealWith p).dealAll ps).quorumLoss) (s := (s.dealWith p).dealAll ps) (by simp), cfg']
      exact after
    · have here : (s.dealWith p).afterLive s.liveCount = s.dealWith p :=
        if_neg (by rwa [member, cfg])
      rw [here, ih on' (cfg ▸ positive)]
      refine State.afterLive_congr fun isMember _ => ?_
      rw [member', member] at isMember
      rw [cfg']
      exact ⟨fun h => h.trans (s.liveCount_dealWith_le p), fun h => not_lt.1 fun below => lost ⟨isMember, h, below⟩⟩

/-- The map and the Peer Table after the silence counts, less what a quorum loss takes (R50, R51). -/
def State.silenced (s : State) : State := s.raiseSilence.dealAll allStations

theorem State.silenced_frame (s : State) :
    s.silenced.id = s.id ∧ s.silenced.setup = s.setup ∧ s.silenced.timer = s.timer ∧ s.silenced.member = s.member :=
  s.raiseSilence.dealAll_frame allStations

theorem State.dealAll_eq (ps : List StationId) (s : State) :
    s.dealAll ps = (s.withPeers (s.dealAll ps).peers).withMap (s.dealAll ps).map := by
  induction ps generalizing s with
  | nil => rfl
  | cons p ps ih =>
    have step : ((s.dealWith p).withPeers ((s.dealWith p).dealAll ps).peers).withMap ((s.dealWith p).dealAll ps).map =
        (s.withPeers ((s.dealWith p).dealAll ps).peers).withMap ((s.dealWith p).dealAll ps).map :=
      (congrArg (fun y : State => (y.withPeers ((s.dealWith p).dealAll ps).peers).withMap
        ((s.dealWith p).dealAll ps).map) (s.dealWith_eq p)).trans rfl
    exact (ih (s.dealWith p)).trans step

theorem State.silenced_eq (s : State) : s.silenced = (s.withPeers s.silenced.peers).withMap s.silenced.map :=
  State.dealAll_eq allStations s.raiseSilence

/-- Silence is counted and every peer dealt with; then a live count that has fallen is handed on (R50, R51, R56). -/
theorem State.silencePart_eq (on : s.onLine = true) (positive : 0 < s.cfg.expiry) :
    s.silencePart = s.silenced.afterLive s.liveCount := by
  have count : s.raiseSilence.liveCount = s.liveCount := by
    refine State.liveCount_congr (fun q => ?_) rfl
    simp only [State.raiseSilence, State.peers_withPeers, Table.get_change]
    split_ifs <;> rfl
  unfold State.silencePart
  rw [if_pos on, State.dealtWith_all (s := s.raiseSilence) allStations on positive, count]
  rfl

/-! ### The tables after the silence counts, entry by entry -/

theorem State.peers_dealAll (ps : List StationId) (positive : 0 < s.cfg.expiry) (q : StationId) :
    (s.dealAll ps).peers.get q = if q ∈ ps ∧ q ≠ s.id then (s.peers.get q).expired s.cfg.expiry else s.peers.get q := by
  induction ps generalizing s with
  | nil => simp
  | cons p ps ih =>
    obtain ⟨hid, setup, -, -⟩ := s.dealWith_frame p
    have cfg : (s.dealWith p).cfg = s.cfg := State.cfg_congr setup
    rw [State.dealAll, List.foldl_cons, ih (cfg ▸ positive), hid, cfg, State.peers_dealWith]
    have twice := PeerEntry.expired_expired positive (s.peers.get q)
    grind

/-- A live record of a station that `due` names takes an orphan part (R15). -/
def orphanWhere (due : StationId → Bool) (c : CycleNumber) (n : Nat) (r : HolderRecord) : HolderRecord :=
  if (due r.station && r.isLive) = true then { r with orphan := some ⟨c, n⟩ } else r

theorem orphanWhere_of_not_due {due : StationId → Bool} {r : HolderRecord} (h : due r.station = false)
    (c : CycleNumber) (n : Nat) : orphanWhere due c n r = r :=
  if_neg (by simp [h])

theorem orphanWhere_of_orphan (due : StationId → Bool) {r : HolderRecord} (h : r.isLive = false) (c : CycleNumber)
    (n : Nat) : orphanWhere due c n r = r :=
  if_neg (by simp [h])

theorem orphanWhere_congr {due due' : StationId → Bool} {r : HolderRecord} (h : due r.station = due' r.station)
    (c : CycleNumber) (n : Nat) : orphanWhere due c n r = orphanWhere due' c n r := by
  unfold orphanWhere
  rw [h]

/-- Whether a peer is dealt with: another station's whose count has reached E. -/
def State.due (s : State) (q : StationId) : Bool := q != s.id && decide (s.cfg.expiry ≤ (s.peers.get q).silence)

theorem State.dealWith_of_due {p : StationId} (h : s.due p = true) : s.dealWith p =
    (s.withPeers (s.peers.set p { s.peers.get p with live := false, silence := 0 })).withMap
      (s.map.orphan p s.timer.cycle s.cfg.expiry) :=
  if_pos (by simpa [State.due] using h)

theorem State.dealWith_of_not_due {p : StationId} (h : s.due p = false) : s.dealWith p = s :=
  if_neg (by simpa [State.due] using h)

theorem State.due_dealWith {p q : StationId} (other : q ≠ p) (s : State) : (s.dealWith p).due q = s.due q := by
  obtain ⟨hid, setup, -, -⟩ := s.dealWith_frame p
  unfold State.due
  rw [hid, State.cfg_congr setup, State.peers_dealWith, if_neg fun h => other h.1]

theorem State.map_dealAll (ps : List StationId) (s : State) (k : SlotIndex) : (s.dealAll ps).map.get k =
    (s.map.get k).map (orphanWhere (fun q => decide (q ∈ ps) && s.due q) s.timer.cycle s.cfg.expiry) := by
  induction ps generalizing s with
  | nil =>
    refine (List.map_id'' (fun r => orphanWhere_of_not_due (by simp) _ _) _).symm
  | cons p ps ih =>
    obtain ⟨-, setup, timer, -⟩ := s.dealWith_frame p
    have cfg : (s.dealWith p).cfg = s.cfg := State.cfg_congr setup
    rw [State.dealAll, List.foldl_cons]
    refine (ih (s.dealWith p)).trans ?_
    rw [timer, cfg]
    cases due : s.due p with
    | false =>
      rw [State.dealWith_of_not_due due]
      refine List.map_congr_left fun r _ => orphanWhere_congr ?_ _ _
      by_cases same : r.station = p <;> simp [same, due]
    | true =>
      have first : (s.dealWith p).map.get k =
          (s.map.get k).map (orphanWhere (fun q => q == p) s.timer.cycle s.cfg.expiry) := by
        rw [State.dealWith_of_due due]
        exact SlotMap.get_orphan _ _ _ _ _
      rw [first, List.map_map]
      refine List.map_congr_left fun r _ => ?_
      by_cases same : r.station = p
      · cases live : r.isLive with
        | true =>
          have here : orphanWhere (fun q => q == p) s.timer.cycle s.cfg.expiry r =
              { r with orphan := some ⟨s.timer.cycle, s.cfg.expiry⟩ } := if_pos (by simp [same, live])
          have there : orphanWhere (fun q => decide (q ∈ p :: ps) && s.due q) s.timer.cycle s.cfg.expiry r =
              { r with orphan := some ⟨s.timer.cycle, s.cfg.expiry⟩ } := if_pos (by simp [same, live, due])
          rw [Function.comp_apply, here, there]
          exact orphanWhere_of_orphan _ rfl _ _
        | false => rw [Function.comp_apply, orphanWhere_of_orphan _ live, orphanWhere_of_orphan _ live,
            orphanWhere_of_orphan _ live]
      · rw [Function.comp_apply, orphanWhere_of_not_due (due := fun q => q == p) (by simpa using same)]
        exact orphanWhere_congr (by simp [same, State.due_dealWith same]) _ _

/-- The silence count of a peer at a mark: one more where it is LIVE, or ABSENT with live records (R50). -/
def State.raised (s : State) (q : StationId) : PeerEntry :=
  if q ≠ s.id ∧ ((s.peers.get q).live || s.map.anyLive q) = true then
    { s.peers.get q with silence := (s.peers.get q).silence + 1 }
  else s.peers.get q

theorem State.peers_raiseSilence (s : State) (q : StationId) : s.raiseSilence.peers.get q = s.raised q := by
  simp only [State.raiseSilence, State.peers_withPeers, Table.get_change, State.raised]
  by_cases own : q = s.id <;> simp [own]

/-- Whether a mark's silence count brings a peer to E. -/
def State.dueAtMark (s : State) (q : StationId) : Bool := q != s.id && decide (s.cfg.expiry ≤ (s.raised q).silence)

theorem State.due_raiseSilence (s : State) : s.raiseSilence.due = s.dueAtMark := by
  funext q
  unfold State.due State.dueAtMark
  rw [State.peers_raiseSilence]
  rfl

theorem State.peers_silenced (positive : 0 < s.cfg.expiry) (q : StationId) : s.silenced.peers.get q =
    if s.dueAtMark q = true then { s.raised q with live := false, silence := 0 } else s.raised q := by
  refine (State.peers_dealAll (s := s.raiseSilence) allStations positive q).trans ?_
  rw [State.peers_raiseSilence]
  have cfg : s.raiseSilence.cfg = s.cfg := rfl
  have hid : s.raiseSilence.id = s.id := rfl
  rw [cfg, hid]
  unfold PeerEntry.expired State.dueAtMark
  by_cases own : q = s.id <;> simp [own]

theorem State.map_silenced (s : State) (k : SlotIndex) : s.silenced.map.get k =
    (s.map.get k).map (orphanWhere s.dueAtMark s.timer.cycle s.cfg.expiry) := by
  refine (State.map_dealAll allStations s.raiseSilence k).trans ?_
  rw [State.due_raiseSilence]
  simp only [mem_allStations, decide_true, Bool.true_and]
  rfl

/-- The tables after the silence counts follow from these alone. -/
theorem State.silenced_congr (hid : t.id = s.id) (setup : t.setup = s.setup) (cycle : t.timer.cycle = s.timer.cycle)
    (peers : t.peers = s.peers) (live : ∀ q, q ≠ s.id → t.map.anyLive q = s.map.anyLive q)
    (positive : 0 < s.cfg.expiry) : t.silenced.peers = s.silenced.peers ∧
      ∀ k, t.silenced.map.get k = (t.map.get k).map (orphanWhere s.dueAtMark s.timer.cycle s.cfg.expiry) := by
  have cfg : t.cfg = s.cfg := State.cfg_congr setup
  have raised (q : StationId) : t.raised q = s.raised q := by
    unfold State.raised
    rw [hid, peers]
    by_cases own : q = s.id
    · simp [own]
    · rw [live q own]
  have due : t.dueAtMark = s.dueAtMark := by
    funext q
    unfold State.dueAtMark
    rw [hid, cfg, raised]
  refine ⟨?_, fun k => ?_⟩
  · ext q
    rw [State.peers_silenced (cfg ▸ positive), State.peers_silenced positive, due, raised]
  · rw [State.map_silenced, due, cycle, cfg]

end Sys2Proof.Machine
end

section
/-!
PROOF. The parts of a mark that do not end membership: what each of them changes (Table 2-3).
-/

namespace Sys2Proof.Machine

variable {s t u w : State} {p : MarkPart}

/-! ### A mark as its parts see it -/

/-- What the parts of a mark are taken with: the MARK's fields, whether it is a duplicate (R141), and the station
state and the aligned flag before it (R64, R65). -/
structure MarkContext where
  fields : MarkFields
  dup : Bool
  was : StationState
  aligned : Bool

/-- One part of a mark. -/
abbrev State.part (c : MarkContext) (s : State) (p : MarkPart) : State := s.markPart c.fields c.dup c.was c.aligned p

/-- Where a part of a mark ends membership (R66, R70, R71). -/
def State.endsAt (c : MarkContext) (s : State) : MarkPart → Prop
  | .agreement => agrees c.fields s.cfg = false
  | .duplicateId => c.dup = true
  | .standing => c.was = .member ∧ s.member.station = .member ∧ s.cfg.expiry ≤ s.member.standing + 2
  | _ => False

/-- A part of a mark where it does not end membership. -/
def State.quietPart (c : MarkContext) (s : State) : MarkPart → State
  | .agreement | .duplicateId => s
  | .standing =>
    if c.was = .member ∧ s.member.station = .member then
      s.withMember { s.member with standing := s.member.standing + 1 }
    else s
  | p => s.part c p

theorem State.part_of_quiet {c : MarkContext} (quiet : ¬ s.endsAt c p) : s.part c p = s.quietPart c p := by
  cases p with
  | agreement | duplicateId => exact if_neg fun h => quiet h.2
  | standing =>
    refine if_ctx_congr Iff.rfl (fun h => ?_) fun _ => rfl
    refine if_neg fun due => quiet ⟨h.1, h.2, ?_⟩
    exact due.2
  | _ => rfl

/-! ### What each part but the silence counts touches -/

/-- What a part of a mark changes of the state. The silence counts stand apart. -/
inductive State.Touched (s : State) : MarkPart → State → Prop
  | nothing (p : MarkPart) : s.Touched p s
  | standing (n : Nat) : s.Touched .standing (s.withMember { s.member with standing := n })
  | joining (st : StationState) (n k f : Nat) (q : NotificationQueue)
      (joins : st = s.member.station ∨ (s.member.station = .joining ∧ st = .member)) :
      s.Touched .joining (((s.withMember { s.member with station := st, joiningCount := n, standing := k }).withTimer
        { s.timer with founding := f }).withNotes q)
  | orphans (x : SlotMap) : s.Touched .orphans (s.withMap x)
  | promotion (hs : List Holding) (ds : List Demand) (q : NotificationQueue) :
      s.Touched .promotion (((s.withHoldings hs).withDemands ds).withNotes q)
  | localHold (n : Nat) (b : Bool) :
      s.Touched .localHold (s.withPlanner { s.planner with localHold := n, yieldHold := b })
  | derate (n : Nat) (b : Bool) (q : NotificationQueue) :
      s.Touched .derate ((s.withSag { s.sag with derateRemaining := n, windowOpen := b }).withNotes q)
  | sagExtension (b : Bool) : s.Touched .sagExtension (s.withOutbox { s.outbox with sag := b })
  | presence (b : Bool) : s.Touched .presence (s.withOutbox { s.outbox with presence := b })

/-- The joining count after a mark (R64). -/
def State.joinCount (al : Bool) (s : State) : Nat :=
  if al then min s.cfg.expiry (s.member.joiningCount + 1) else s.member.joiningCount

theorem State.joiningPart_of_early {al : Bool} (joining : s.member.station = .joining)
    (early : ¬ (s.cfg.expiry ≤ s.joinCount al ∧ s.member.ownPresence = true)) :
    s.joiningPart al = s.withMember { s.member with joiningCount := s.joinCount al } := by
  unfold State.joiningPart
  rw [if_pos joining]
  refine if_neg fun done => early ?_
  simp only [State.joiningDone, Bool.and_eq_true, decide_eq_true_eq] at done
  exact ⟨done.1.2, done.2⟩

theorem State.joiningPart_of_due {al : Bool} {k : SlotIndex} {e : Nat} (joining : s.member.station = .joining)
    (slot : s.timer.phase = .inSlot k e) (due : s.cfg.expiry ≤ s.joinCount al) (own : s.member.ownPresence = true) :
    s.joiningPart al = ((s.withMember
      { s.member with station := .member, joiningCount := s.joinCount al, standing := 0 }).withTimer
        { s.timer with founding := 0 }).note (.state .member .none (s.liveCount + 1)) := by
  unfold State.joiningPart
  rw [if_pos joining]
  refine (State.joinIfDone_of_due (by exact joining) (by exact due) (by exact own)).trans ?_
  refine (State.becomeMember_eq (by exact joining)).trans ?_
  show (match s.timer.phase with
    | .inGap _ _ => _
    | _ => _) = _
  rw [slot]
  rfl

/-- The Demand Queue after a promotion with `active` ACTIVE entries (R90). -/
def servedDemands (active : Nat) : List Demand → List Demand
  | d :: ds => { d with served := d.served || decide (d.floor ≤ active) } :: ds
  | [] => []

theorem State.serve_eq (s : State) : s.serve =
    (s.withDemands (servedDemands s.activeCount s.demands)).withNotes
      (s.notes.after (servedRecords s.timer.cycle s.activeCount s.demands)) := by
  unfold State.serve servedDemands servedRecords
  cases hd : s.demands with
  | nil =>
    obtain ⟨_⟩ := s
    cases hd
    simp [State.withDemands, State.withNotes]
  | cons d ds =>
    by_cases serves : d.served = false ∧ d.floor ≤ s.activeCount
    · simp [serves, State.note_after]
    · have same : (d.served || decide (d.floor ≤ s.activeCount)) = d.served := by
        cases served : d.served <;> simp_all
      obtain ⟨_⟩ := s
      cases hd
      simp [serves, same, State.withDemands, State.withNotes]

theorem State.promotionPart_eq (member : s.member.station = .member) : s.promotionPart =
    ((s.withHoldings (s.holdings.map Holding.promote)).withDemands (servedDemands
      ((s.holdings.map Holding.promote).filter Holding.isActive).length s.demands)).withNotes
        (s.notes.after (servedRecords s.timer.cycle
          ((s.holdings.map Holding.promote).filter Holding.isActive).length s.demands)) := by
  unfold State.promotionPart
  rw [if_pos member, State.serve_eq]
  rfl

theorem State.derateFromMark_eq (field : Nat) (s : State) : s.derateFromMark field =
    (s.withSag { s.sag with
      derateRemaining := field
      windowOpen :=
        if s.sag.derateRemaining = 0 ∧ 0 < field then true
        else if 0 < s.sag.derateRemaining ∧ field = 0 then false
        else s.sag.windowOpen }).withNotes
      (s.notes.after (derateRecords s.timer.cycle s.sag.derateRemaining field)) := by
  unfold State.derateFromMark derateRecords
  by_cases ends : 0 < s.sag.derateRemaining ∧ field = 0
  · have begins : ¬ (s.sag.derateRemaining = 0 ∧ 0 < field) := by omega
    simp only [if_pos ends, if_neg begins, State.endWindow, State.note_after]
    rfl
  · by_cases begins : s.sag.derateRemaining = 0 ∧ 0 < field
    · simp only [if_neg ends, if_pos begins, State.note_after]
      rfl
    · simp only [if_neg ends, if_neg begins]
      simp [State.withSag, State.withNotes]

theorem State.sagExtensionPart_eq (field : Nat) (on : s.onLine = true) : s.sagExtensionPart field =
    s.withOutbox { s.outbox with
      sag := s.outbox.sag || (decide (s.cfg.sagMode = .shared ∧ field ≤ 1) && s.sag.condition) } := by
  unfold State.sagExtensionPart State.queueSag
  by_cases due : s.cfg.sagMode = .shared ∧ field ≤ 1
  · cases s.sag.condition <;> simp [on, due, State.withOutbox]
  · have quiet : ¬ (s.onLine = true ∧ s.cfg.sagMode = .shared ∧ s.sag.condition = true ∧ field ≤ 1) :=
      fun h => due ⟨h.2.1, h.2.2.2⟩
    simp [if_neg quiet, due, State.withOutbox]

theorem State.presencePart_eq (k : CycleNumber) (on : s.onLine = true) : s.presencePart k =
    s.withOutbox { s.outbox with
      presence := s.outbox.presence || decide (k.toNat % s.cfg.period = s.id.val % s.cfg.period) } := by
  unfold State.presencePart State.queuePresence
  by_cases due : k.toNat % s.cfg.period = s.id.val % s.cfg.period <;> simp [on, due, State.withOutbox]

theorem State.localHoldPart_eq (field : Nat) (on : s.onLine = true) : s.localHoldPart field =
    s.withPlanner { s.planner with
      localHold := s.planner.localHold - 1
      yieldHold := s.planner.yieldHold && !decide (s.planner.localHold - 1 = 0 ∧ field = 0) } := by
  unfold State.localHoldPart
  rw [if_pos on]
  by_cases ends : s.planner.localHold - 1 = 0 ∧ field = 0 <;> simp [ends]

/-- The quiet parts but the silence counts, and what they touch. -/
theorem State.quietPart_touched {c : MarkContext} {k : SlotIndex} {e : Nat} (on : s.onLine = true)
    (slot : s.timer.phase = .inSlot k e) (ne : p ≠ .silence) : s.Touched p (s.quietPart c p) := by
  cases p with
  | agreement | duplicateId => exact .nothing _
  | standing =>
    unfold State.quietPart
    dsimp only
    split
    · exact .standing _
    · exact .nothing _
  | joining =>
    show s.Touched _ (s.joiningPart c.aligned)
    by_cases joining : s.member.station = .joining
    · by_cases due : s.cfg.expiry ≤ s.joinCount c.aligned ∧ s.member.ownPresence = true
      · rw [State.joiningPart_of_due joining slot due.1 due.2, State.note_after]
        exact .joining .member _ 0 0 _ (.inr ⟨joining, rfl⟩)
      · rw [State.joiningPart_of_early joining due]
        exact .joining s.member.station (s.joinCount c.aligned) s.member.standing s.timer.founding s.notes (.inl rfl)
    · rw [State.joiningPart, if_neg joining]
      exact .nothing _
  | silence => exact absurd rfl ne
  | orphans =>
    show s.Touched _ (if c.dup = true then s else s.orphanPart c.fields.cycle)
    split
    · exact .nothing _
    · rw [State.orphanPart, if_pos on]
      exact .orphans _
  | promotion =>
    show s.Touched _ s.promotionPart
    by_cases member : s.member.station = .member
    · rw [State.promotionPart_eq member]
      exact .promotion _ _ _
    · rw [State.promotionPart, if_neg member]
      exact .nothing _
  | localHold =>
    show s.Touched _ (s.localHoldPart c.fields.derate)
    rw [State.localHoldPart_eq _ on]
    exact .localHold _ _
  | derate =>
    show s.Touched _ (if s.onLine = true then s.derateFromMark c.fields.derate else s)
    rw [if_pos on, State.derateFromMark_eq]
    exact .derate _ _ _
  | sagExtension =>
    show s.Touched _ (s.sagExtensionPart c.fields.derate)
    rw [State.sagExtensionPart_eq _ on]
    exact .sagExtension _
  | presence =>
    show s.Touched _ (if c.dup = true then s else s.presencePart c.fields.cycle)
    split
    · exact .nothing _
    · rw [State.presencePart_eq _ on]
      exact .presence _

end Sys2Proof.Machine
end

section
/-!
PROOF. The quiet parts of a mark one after another: what stays, and what each part brings about once.
-/

namespace Sys2Proof.Machine

variable {s t u w : State} {p : MarkPart}

/-! ### What a quorum loss can reach -/

/-- What the silence counts of a mark leave alone, a quorum loss among them (R56, R77). -/
structure State.Spared (s t : State) : Prop where
  rest : t.pending = s.pending ∧ t.rstn = s.rstn ∧ t.id = s.id ∧ t.setup = s.setup ∧ t.line = s.line ∧
    t.timer = s.timer ∧ t.member = s.member ∧ t.sag = s.sag ∧ t.port = s.port ∧ t.snap = s.snap
  outbox : t.outbox = { s.outbox with claim := t.outbox.claim, release := t.outbox.release }
  planner : t.planner = { s.planner with
    claimOutstanding := t.planner.claimOutstanding, pickOrder := t.planner.pickOrder }
  output : t.output = s.output ∨ t.output = ⟨.idle, false⟩
  notes : ∃ ns, t.notes = s.notes.after ns ∧ ∀ n ∈ ns, n.body.kindCode ≠ 5 ∧ n.body.kindCode ≠ 6

theorem State.Spared.refl (s : State) : s.Spared s where
  rest := ⟨rfl, rfl, rfl, rfl, rfl, rfl, rfl, rfl, rfl, rfl⟩
  outbox := rfl
  planner := rfl
  output := .inl rfl
  notes := ⟨[], by simp, by simp⟩

theorem State.Spared.trans (h : s.Spared t) (g : t.Spared u) : s.Spared u where
  rest := by
    obtain ⟨a1, a2, a3, a4, a5, a6, a7, a8, a9, a10⟩ := h.rest
    obtain ⟨b1, b2, b3, b4, b5, b6, b7, b8, b9, b10⟩ := g.rest
    exact ⟨b1.trans a1, b2.trans a2, b3.trans a3, b4.trans a4, b5.trans a5, b6.trans a6, b7.trans a7, b8.trans a8,
      b9.trans a9, b10.trans a10⟩
  outbox := by rw [g.outbox, h.outbox]
  planner := by rw [g.planner, h.planner]
  output := by
    rcases g.output with same | idle
    · exact h.output.imp same.trans same.trans
    · exact .inr idle
  notes := by
    obtain ⟨ns, hn, kinds⟩ := h.notes
    obtain ⟨ms, hm, kinds'⟩ := g.notes
    refine ⟨ns ++ ms, by rw [hm, hn, NotificationQueue.after_append], fun n hn => ?_⟩
    exact (List.mem_append.1 hn).elim (kinds n) (kinds' n)

/-- A change of the tables alone. -/
theorem State.Spared.tables (P : PeerTable) (M : SlotMap) (s : State) : s.Spared ((s.withPeers P).withMap M) where
  rest := ⟨rfl, rfl, rfl, rfl, rfl, rfl, rfl, rfl, rfl, rfl⟩
  outbox := rfl
  planner := rfl
  output := .inl rfl
  notes := ⟨[], by simp, by simp⟩

theorem State.lossRecords_kinds (n : Nat) (s : State) :
    ∀ r ∈ s.lossRecords n, r.body.kindCode ≠ 5 ∧ r.body.kindCode ≠ 6 := by
  unfold State.lossRecords
  intro r hr
  rcases List.mem_append.1 hr with hr | hr
  · split at hr
    · cases hr
    · rw [List.mem_singleton.1 hr]
      simp [NoteBody.kindCode]
  · split at hr
    · split at hr
      · rw [List.mem_singleton.1 hr]
        simp [NoteBody.kindCode]
      · cases hr
    · cases hr

/-- The blocks that a quorum loss writes, whatever it writes there. -/
theorem State.Spared.blocks (M : SlotMap) (hs : List Holding) (claim release : Option SlotSet) (b : Bool)
    (picks : List SlotIndex) (q : NotificationQueue) (ds : List Demand)
    (records : ∃ ns, q = s.notes.after ns ∧ ∀ n ∈ ns, n.body.kindCode ≠ 5 ∧ n.body.kindCode ≠ 6) :
    s.Spared (((((((s.withMap M).withHoldings hs).withOutbox { s.outbox with claim := claim, release := release }).withOutput
      ⟨.idle, false⟩).withPlanner { s.planner with claimOutstanding := b, pickOrder := picks }).withNotes
        q).withDemands ds) where
  rest := by simp
  outbox := by simp
  planner := by simp
  output := .inr (by simp)
  notes := by simpa using records

theorem State.Spared.quorumLoss (s : State) : s.Spared s.quorumLoss := by
  rw [State.quorumLoss_eq, State.quorumDropped_eq, (Outbox.queueRelease_spec _ _).1]
  exact .blocks _ _ none (s.outbox.queueRelease (slotSetOf (s.holdings.map Holding.slot))).release _ _ _ _
    ⟨_, rfl, s.lossRecords_kinds s.holdings.length⟩

theorem State.Spared.afterLive (n : Nat) (s : State) : s.Spared (s.afterLive n) := by
  unfold State.afterLive
  split
  · exact .quorumLoss s
  · exact .refl s

theorem State.Spared.dealtWith (p : StationId) (s : State) : s.Spared ((s.expirePeer p).orphanAbsent p) := by
  have expires : s.Spared (s.expirePeer p) := by
    unfold State.expirePeer
    dsimp only
    split
    · exact (State.Spared.tables _ _ s).trans (.afterLive _ _)
    · exact .refl s
  refine expires.trans ?_
  unfold State.orphanAbsent
  dsimp only
  split
  · exact .tables _ _ _
  · exact .refl _

theorem State.Spared.silencePart (s : State) : s.Spared s.silencePart := by
  have fold (ps : List StationId) (u : State) : u.Spared (ps.foldl (fun s p => (s.expirePeer p).orphanAbsent p) u) := by
    induction ps generalizing u with
    | nil => exact .refl u
    | cons p ps ih => exact (State.Spared.dealtWith p u).trans (ih _)
  unfold State.silencePart
  split
  · have raised : s.Spared s.raiseSilence := .tables s.raiseSilence.peers s.map s
    exact raised.trans (fold _ _)
  · exact .refl s

/-! ### What stays through the quiet parts -/

/-- What the quiet parts of a mark leave alone (Table 2-3). -/
structure State.Through (s t : State) : Prop where
  rest : t.pending = s.pending ∧ t.rstn = s.rstn ∧ t.id = s.id ∧ t.setup = s.setup ∧ t.line = s.line ∧
    t.port = s.port ∧ t.snap = s.snap
  timer : t.timer = { s.timer with founding := t.timer.founding }
  outbox : t.outbox = { s.outbox with
    sag := t.outbox.sag, presence := t.outbox.presence, claim := t.outbox.claim, release := t.outbox.release }
  planner : t.planner.announcedPriority = s.planner.announcedPriority
  sag : t.sag = { s.sag with derateRemaining := t.sag.derateRemaining, windowOpen := t.sag.windowOpen }
  member : t.member = { s.member with
    station := t.member.station, joiningCount := t.member.joiningCount, standing := t.member.standing }
  station : t.member.station = s.member.station ∨ (s.member.station = .joining ∧ t.member.station = .member)
  output : t.output = s.output ∨ t.output = ⟨.idle, false⟩

theorem State.Through.refl (s : State) : s.Through s where
  rest := ⟨rfl, rfl, rfl, rfl, rfl, rfl, rfl⟩
  timer := rfl
  outbox := rfl
  planner := rfl
  sag := rfl
  member := rfl
  station := .inl rfl
  output := .inl rfl

theorem State.Through.trans (h : s.Through t) (g : t.Through u) : s.Through u where
  rest := by
    obtain ⟨a1, a2, a3, a4, a5, a6, a7⟩ := h.rest
    obtain ⟨b1, b2, b3, b4, b5, b6, b7⟩ := g.rest
    exact ⟨b1.trans a1, b2.trans a2, b3.trans a3, b4.trans a4, b5.trans a5, b6.trans a6, b7.trans a7⟩
  timer := by rw [g.timer, h.timer]
  outbox := by rw [g.outbox, h.outbox]
  planner := g.planner.trans h.planner
  sag := by rw [g.sag, h.sag]
  member := by rw [g.member, h.member]
  station := by
    rcases g.station with same | ⟨joining, joined⟩
    · rw [same]
      exact h.station
    · rcases h.station with stays | ⟨was, is⟩
      · exact .inr ⟨stays.symm.trans joining, joined⟩
      · exact .inr ⟨was, joined⟩
  output := by
    rcases g.output with same | idle
    · exact h.output.imp same.trans same.trans
    · exact .inr idle

theorem State.Touched.through (h : s.Touched p t) : s.Through t := by
  cases h with
  | joining st n k f q joins =>
    exact { State.Through.refl s with timer := rfl, member := rfl, station := joins }
  | standing n => exact { State.Through.refl s with member := rfl }
  | localHold n b => exact { State.Through.refl s with planner := rfl }
  | derate n b q => exact { State.Through.refl s with sag := rfl }
  | sagExtension b | presence b => exact { State.Through.refl s with outbox := rfl }
  | _ => exact { State.Through.refl s with }

theorem State.Spared.through (h : s.Spared t) : s.Through t := by
  obtain ⟨pending, rstn, hid, setup, line, timer, member, sag, port, snap⟩ := h.rest
  exact
    { rest := ⟨pending, rstn, hid, setup, line, port, snap⟩
      timer := by rw [timer]
      outbox := by rw [h.outbox]
      planner := by rw [h.planner]
      sag := by rw [sag]
      member := by rw [member]
      station := .inl (by rw [member])
      output := h.output }

theorem State.Through.onLine (h : s.Through t) (on : s.onLine = true) : t.onLine = true := by
  rcases h.station with same | ⟨-, member⟩
  · rwa [State.onLine, same]
  · exact State.onLine_of_member member

theorem State.Through.slot (h : s.Through t) {k : SlotIndex} {e : Nat} (slot : s.timer.phase = .inSlot k e) :
    t.timer.phase = .inSlot k e := by
  rw [h.timer]
  exact slot

theorem State.Through.id_eq (h : s.Through t) : t.id = s.id := h.rest.2.2.1

theorem State.Through.cfg_eq (h : s.Through t) : t.cfg = s.cfg := State.cfg_congr h.rest.2.2.2.1

theorem State.Through.cycle_eq (h : s.Through t) : t.timer.cycle = s.timer.cycle := by rw [h.timer]

theorem State.Through.member_of_member (h : s.Through t) (member : s.member.station = .member) :
    t.member.station = .member := by
  rcases h.station with same | ⟨-, joined⟩
  · exact same.trans member
  · exact joined

/-- A station at which the parts of a mark are taken: JOINING or MEMBER, in the slot that the mark has begun. -/
structure State.AtMark (s : State) : Prop where
  onLine : s.onLine = true
  slot : s.timer.phase = .inSlot 0 0

theorem State.AtMark.through (h : s.AtMark) (g : s.Through t) : t.AtMark := ⟨g.onLine h.onLine, g.slot h.slot⟩

theorem State.AtMark.touched (h : s.AtMark) (c : MarkContext) (ne : p ≠ .silence) : s.Touched p (s.quietPart c p) :=
  State.quietPart_touched h.onLine h.slot ne

theorem State.quietPart_silence (c : MarkContext) (s : State) :
    s.quietPart c .silence = if c.dup = true then s else s.silencePart :=
  rfl

theorem State.quietPart_silence_spared (c : MarkContext) (s : State) : s.Spared (s.quietPart c .silence) := by
  rw [State.quietPart_silence]
  split
  · exact .refl s
  · exact .silencePart s

theorem State.AtMark.quietPart_through (h : s.AtMark) (c : MarkContext) (p : MarkPart) :
    s.Through (s.quietPart c p) := by
  by_cases hp : p = .silence
  · subst hp
    exact (s.quietPart_silence_spared c).through
  · exact (h.touched c hp).through

/-- The parts of `l` where none of them ends membership. -/
abbrev State.quiet (c : MarkContext) (l : List MarkPart) (s : State) : State := l.foldl (fun s p => s.quietPart c p) s

theorem State.AtMark.quiet_through (h : s.AtMark) (c : MarkContext) (l : List MarkPart) : s.Through (s.quiet c l) := by
  induction l generalizing s with
  | nil => exact .refl s
  | cons p l ih =>
    have first := h.quietPart_through c p
    exact first.trans (ih (h.through first))

/-! ### What comes about once -/

/-- What one part alone changes, it changes once. -/
theorem State.AtMark.quiet_once {α : Type} {c : MarkContext} {A : MarkPart → Prop} {π : State → α} {q : MarkPart}
    {f : α → α} (h : s.AtMark)
    (other : ∀ t p, t.AtMark → s.Through t → A p → p ≠ q → π (t.quietPart c p) = π t)
    (hit : ∀ t, t.AtMark → s.Through t → π (t.quietPart c q) = f (π t)) (l : List MarkPart) (once : l.Nodup)
    (only : ∀ p ∈ l, A p) : π (s.quiet c l) = if q ∈ l then f (π s) else π s := by
  suffices ∀ t, t.AtMark → s.Through t → π (t.quiet c l) = if q ∈ l then f (π t) else π t from this s h (.refl s)
  induction l with
  | nil => exact fun t _ _ => rfl
  | cons p l ih =>
    intro t at_t through
    obtain ⟨fresh, once⟩ := List.nodup_cons.1 once
    have step := at_t.quietPart_through c p
    have rest := ih once (fun x hx => only x (by simp [hx])) _ (at_t.through step) (through.trans step)
    rw [State.quiet, List.foldl_cons]
    refine rest.trans ?_
    by_cases here : p = q
    · subst here
      rw [if_neg fresh, if_pos (by simp), hit t at_t through]
    · rw [other t p at_t through (only p (by simp)) here]
      simp [Ne.symm here]

/-- What no part changes stays. -/
theorem State.AtMark.quiet_const {α : Type} {c : MarkContext} {A : MarkPart → Prop} {π : State → α} (h : s.AtMark)
    (same : ∀ t p, t.AtMark → s.Through t → A p → π (t.quietPart c p) = π t) (l : List MarkPart)
    (only : ∀ p ∈ l, A p) : π (s.quiet c l) = π s := by
  suffices ∀ t, t.AtMark → s.Through t → π (t.quiet c l) = π t from this s h (.refl s)
  induction l with
  | nil => exact fun t _ _ => rfl
  | cons p l ih =>
    intro t at_t through
    have step := at_t.quietPart_through c p
    exact (ih (fun x hx => only x (by simp [hx])) _ (at_t.through step) (through.trans step)).trans
      (same t p at_t through (only p (by simp)))

end Sys2Proof.Machine
end

section
/-!
PROOF. A mark as one run: the alignment, then the parts up to the one that ends membership, if any (R30, R31).
-/

namespace Sys2Proof.Machine

variable {s t u w : State} {p : MarkPart} {c : MarkContext}

/-! ### Which block belongs to which part -/

theorem State.Touched.member_eq (h : s.Touched p t) (ne : p ≠ .standing) (ne' : p ≠ .joining) : t.member = s.member := by
  cases h with
  | standing => exact absurd rfl ne
  | joining => exact absurd rfl ne'
  | _ => rfl

theorem State.Touched.timer_eq (h : s.Touched p t) (ne : p ≠ .joining) : t.timer = s.timer := by
  cases h with
  | joining => exact absurd rfl ne
  | _ => rfl

theorem State.Touched.peers_eq (h : s.Touched p t) : t.peers = s.peers := by
  cases h <;> rfl

theorem State.Touched.map_eq (h : s.Touched p t) (ne : p ≠ .orphans) : t.map = s.map := by
  cases h with
  | orphans => exact absurd rfl ne
  | _ => rfl

theorem State.Touched.output_eq (h : s.Touched p t) : t.output = s.output := by
  cases h <;> rfl

theorem State.Touched.holdings_eq (h : s.Touched p t) (ne : p ≠ .promotion) : t.holdings = s.holdings := by
  cases h with
  | promotion => exact absurd rfl ne
  | _ => rfl

theorem State.Touched.demands_eq (h : s.Touched p t) (ne : p ≠ .promotion) : t.demands = s.demands := by
  cases h with
  | promotion => exact absurd rfl ne
  | _ => rfl

theorem State.Touched.sag_eq (h : s.Touched p t) (ne : p ≠ .derate) : t.sag = s.sag := by
  cases h with
  | derate => exact absurd rfl ne
  | _ => rfl

theorem State.Touched.planner_eq (h : s.Touched p t) (ne : p ≠ .localHold) : t.planner = s.planner := by
  cases h with
  | localHold => exact absurd rfl ne
  | _ => rfl

theorem State.Touched.sagFlag_eq (h : s.Touched p t) (ne : p ≠ .sagExtension) : t.outbox.sag = s.outbox.sag := by
  cases h with
  | sagExtension => exact absurd rfl ne
  | _ => rfl

theorem State.Touched.presenceFlag_eq (h : s.Touched p t) (ne : p ≠ .presence) :
    t.outbox.presence = s.outbox.presence := by
  cases h with
  | presence => exact absurd rfl ne
  | _ => rfl

/-- What only a quorum loss changes of the Outbox, the planner and the output (R77). -/
theorem State.Touched.claim_eq (h : s.Touched p t) : t.outbox.claim = s.outbox.claim ∧
    t.outbox.release = s.outbox.release ∧ t.planner.claimOutstanding = s.planner.claimOutstanding ∧
    t.planner.pickOrder = s.planner.pickOrder := by
  cases h <;> exact ⟨rfl, rfl, rfl, rfl⟩

/-- Three parts alone queue records, besides the silence counts. -/
theorem State.Touched.notes_eq (h : s.Touched p t) (ne : p ≠ .joining) (ne' : p ≠ .promotion) (ne'' : p ≠ .derate) :
    t.notes = s.notes := by
  cases h with
  | joining => exact absurd rfl ne
  | promotion => exact absurd rfl ne'
  | derate => exact absurd rfl ne''
  | _ => rfl

/-! ### Which parts end membership -/

theorem State.quietPart_joining_of_not (c : MarkContext) (h : s.member.station ≠ .joining) :
    s.quietPart c .joining = s :=
  if_neg h

/-- Only the standing part touches a MEMBER's station state and counters (R66). -/
theorem State.AtMark.member_quietPart (h : s.AtMark) (member : s.member.station = .member) (ne : p ≠ .standing) :
    (s.quietPart c p).member = s.member := by
  by_cases silence : p = .silence
  · rw [silence]
    exact (s.quietPart_silence_spared c).rest.2.2.2.2.2.2.1
  by_cases joining : p = .joining
  · rw [joining, State.quietPart_joining_of_not c (by rw [member]; decide)]
  exact (h.touched c silence).member_eq ne joining

/-- Another part does not decide whether a part ends membership (R66, R70, R71). -/
theorem State.AtMark.endsAt_quietPart (h : s.AtMark) {q : MarkPart} (ne : q ≠ p)
    (fits : c.was = .member → s.member.station = .member) :
    (s.quietPart c p).endsAt c q ↔ s.endsAt c q := by
  have through := h.quietPart_through c p
  cases q with
  | agreement =>
    show agrees c.fields (s.quietPart c p).cfg = false ↔ agrees c.fields s.cfg = false
    rw [through.cfg_eq]
  | standing =>
    show (_ ∧ _ ∧ _) ↔ (_ ∧ _ ∧ _)
    refine and_congr_right fun was => ?_
    rw [h.member_quietPart (fits was) ne.symm, through.cfg_eq]
  | _ => exact Iff.rfl

theorem State.AtMark.endsAt_quiet (h : s.AtMark) (fits : c.was = .member → s.member.station = .member)
    {l : List MarkPart} (notin : p ∉ l) : (s.quiet c l).endsAt c p ↔ s.endsAt c p := by
  induction l generalizing s with
  | nil => exact Iff.rfl
  | cons q l ih =>
    have through := h.quietPart_through c q
    rw [List.mem_cons, not_or] at notin
    exact (ih (h.through through) (fun was => through.member_of_member (fits was)) notin.2).trans
      (h.endsAt_quietPart notin.1 fits)

/-- Where no part ends membership, every part is quiet. -/
theorem State.AtMark.parts_quiet (h : s.AtMark) (fits : c.was = .member → s.member.station = .member)
    (l : List MarkPart) (once : l.Nodup) (quiet : ∀ p ∈ l, ¬ s.endsAt c p) :
    l.foldl (fun s p => s.part c p) s = s.quiet c l := by
  induction l generalizing s with
  | nil => rfl
  | cons p l ih =>
    obtain ⟨fresh, once⟩ := List.nodup_cons.1 once
    have through := h.quietPart_through c p
    rw [State.quiet, List.foldl_cons, List.foldl_cons, State.part_of_quiet (quiet p (by simp))]
    refine ih (h.through through) (fun was => through.member_of_member (fits was)) once fun q hq => ?_
    have ne : q ≠ p := fun same => fresh (same ▸ hq)
    rw [h.endsAt_quietPart ne fits]
    exact quiet q (by simp [hq])

/-- The first of a list at which something holds. -/
theorem exists_first {α : Type} {P : α → Prop} {l : List α} (h : ∃ a ∈ l, P a) :
    ∃ front a rest, l = front ++ a :: rest ∧ P a ∧ ∀ b ∈ front, ¬ P b := by
  classical
  induction l with
  | nil => simp at h
  | cons x l ih =>
    by_cases hx : P x
    · exact ⟨[], x, l, rfl, hx, by simp⟩
    · obtain ⟨a, ha, hp⟩ := h
      have later : ∃ a ∈ l, P a := by
        rcases List.mem_cons.1 ha with rfl | ha
        · exact absurd hp hx
        · exact ⟨a, ha, hp⟩
      obtain ⟨front, a, rest, rfl, hp, before⟩ := ih later
      exact ⟨x :: front, a, rest, rfl, hp, by simpa [hx] using before⟩

/-- The station where the first part of a mark ends its membership (R66, R70, R71). -/
def State.endedAt (c : MarkContext) (s : State) : MarkPart → State
  | .agreement => s.enterFaulted .faultParameter
  | .duplicateId => s.enterFaulted .faultDuplicate
  | .standing => (s.withMember { s.member with standing := s.member.standing + 1 }).enterLapsed .lapsedSend
  | p => s.part c p

theorem State.AtMark.part_of_ends (h : s.AtMark) (ends : s.endsAt c p) : s.part c p = s.endedAt c p := by
  cases p with
  | agreement | duplicateId => exact if_pos ⟨h.onLine, ends⟩
  | standing =>
    obtain ⟨was, member, due⟩ := ends
    exact (if_pos ⟨was, member⟩).trans (if_pos ⟨member, due⟩)
  | _ => exact False.elim ends

theorem State.onLine_endedAt (ends : s.endsAt c p) : (s.endedAt c p).onLine = false := by
  cases p with
  | agreement | duplicateId =>
    simp only [State.endedAt, State.enterFaulted_note, State.faulted_eq]
    simp [State.onLine]
  | standing =>
    simp only [State.endedAt, State.enterLapsed_note, State.lapsed_eq]
    simp [State.onLine]
  | _ => exact False.elim ends

/-- The parts of a mark that ends membership: the quiet ones up to the first that ends it, and nothing behind it. -/
theorem State.AtMark.parts_end (h : s.AtMark) (fits : c.was = .member → s.member.station = .member)
    (l : List MarkPart) (once : l.Nodup) (some_ends : ∃ p ∈ l, s.endsAt c p) :
    ∃ front p, p ∈ l ∧ s.endsAt c p ∧ front.Nodup ∧ (∀ q ∈ front, ¬ s.endsAt c q) ∧ (∀ q ∈ front, q ∈ l) ∧
      l.head? = (front ++ [p]).head? ∧ l.foldl (fun s p => s.part c p) s = (s.quiet c front).endedAt c p := by
  obtain ⟨front, p, rest, rfl, ends, before⟩ := exists_first some_ends
  have fresh := List.nodup_append.1 once
  have front_once : front.Nodup := fresh.1
  have notin : p ∉ front := fun hp => fresh.2.2 p hp p (by simp) rfl
  have still : (s.quiet c front).endsAt c p := (h.endsAt_quiet fits notin).2 ends
  have at_end : (s.quiet c front).AtMark := h.through (h.quiet_through c front)
  refine ⟨front, p, by simp, ends, front_once, before, fun q hq => by simp [hq], ?_, ?_⟩
  · cases front <;> simp
  · rw [List.foldl_append, h.parts_quiet fits front front_once before, List.foldl_cons, at_end.part_of_ends still]
    exact State.markParts_of_off _ _ _ _ (State.onLine_endedAt still) rest

end Sys2Proof.Machine
end

section
/-!
PROOF. The state in which the parts of a mark are taken (R30, R31, R126), and the run of a MARK.
-/

namespace Sys2Proof.Machine

variable {s t u w : State} {p : MarkPart} {c : MarkContext} {m : MarkFields}

/-! ### The end of the cycle in progress -/

/-- What the end of a cycle leaves alone (R31, R92). -/
structure State.CycleKept (s t : State) : Prop where
  rest : t.pending = s.pending ∧ t.rstn = s.rstn ∧ t.id = s.id ∧ t.setup = s.setup ∧ t.line = s.line ∧
    t.timer = s.timer ∧ t.map = s.map ∧ t.peers = s.peers ∧ t.member = s.member ∧ t.sag = s.sag ∧ t.port = s.port ∧
    t.snap = s.snap
  outbox : t.outbox = { s.outbox with claim := t.outbox.claim, release := t.outbox.release }
  planner : t.planner = { s.planner with
    claimOutstanding := t.planner.claimOutstanding, pickOrder := t.planner.pickOrder }

theorem State.CycleKept.refl (s : State) : s.CycleKept s where
  rest := ⟨rfl, rfl, rfl, rfl, rfl, rfl, rfl, rfl, rfl, rfl, rfl, rfl⟩
  outbox := rfl
  planner := rfl

theorem State.headChange_outbox (s : State) : s.headChange.outbox =
    { s.outbox with claim := s.headChange.outbox.claim, release := s.headChange.outbox.release } ∧
    s.headChange.planner = { s.planner with
      claimOutstanding := s.headChange.planner.claimOutstanding, pickOrder := s.headChange.planner.pickOrder } := by
  obtain ⟨out, released, -⟩ := s.releaseHoldings_output fun i => (s.heldSlots.drop s.headWant).contains i
  simp only [State.headChange, State.releaseSurplus, released, State.fitClaim_eq, State.outbox_withDemands,
    State.planner_withDemands, State.outbox_withPlanner, State.outbox_withOutbox, State.planner_withPlanner,
    State.outbox_withOutput, State.planner_withOutbox, State.planner_withOutput, State.planner_withHoldings]
  refine ⟨?_, fitted_frame _ _ _⟩
  rw [(Outbox.queueRelease_spec _ _).1]

theorem State.CycleKept.cycleEnd (s : State) : s.CycleKept s.cycleEnd := by
  have blocks : s.cycleEnd.outbox =
      { s.outbox with claim := s.cycleEnd.outbox.claim, release := s.cycleEnd.outbox.release } ∧
      s.cycleEnd.planner = { s.planner with
        claimOutstanding := s.cycleEnd.planner.claimOutstanding, pickOrder := s.cycleEnd.planner.pickOrder } := by
    rw [State.cycleEnd_eq]
    split
    · exact ⟨rfl, rfl⟩
    · next d ds _ =>
      split
      · split
        · have ended := ((s.withDemands ds).note (.done d.tag 0 .completed)).headChange_outbox
          simpa using ended
        · exact ⟨rfl, rfl⟩
      · exact ⟨rfl, rfl⟩
  exact { rest := by simp, outbox := blocks.1, planner := blocks.2 }

theorem State.CycleKept.truncate (s : State) : s.CycleKept s.truncate := by
  unfold State.truncate
  split
  · exact .cycleEnd s
  · exact .refl s

/-- Outside MEMBER a cycle ends without effect (R92). -/
theorem State.truncate_of_not_member (h : s.member.station ≠ .member) : s.truncate = s := by
  have ends : s.cycleEnd = s := by
    unfold State.cycleEnd
    split
    · rfl
    · exact if_neg fun served => h served.1
  unfold State.truncate
  split
  · exact ends
  · rfl

/-! ### The alignment -/

/-- Whether the notice in flight is the station's own MARK. -/
def Outbox.ownMark (o : Outbox) : Bool :=
  match o.inFlight with
  | some (.mark _) => true
  | _ => false

theorem State.withdrawMark_eq (s : State) : s.withdrawMark =
    (s.withOutbox { s.outbox with mark := none, inFlight := if s.outbox.ownMark then none else s.outbox.inFlight }).withLine
      (if s.outbox.ownMark then { s.line with attempts := 0, clashes := 0, broken := none } else s.line) := by
  unfold State.withdrawMark Outbox.ownMark
  cases flies : s.outbox.inFlight with
  | none => simp [State.withOutbox, State.withLine, flies]
  | some n => cases n <;> simp [State.withOutbox, State.withLine, flies]

/-- The state in which the parts of a mark are taken: the cycle in progress ended, and slot 0 begun (R30, R31). -/
def State.beginMark (m : MarkFields) (u : State) : State := u.truncate.align m.cycle

theorem State.beginMark_eq (m : MarkFields) (u : State) : u.beginMark m =
    (((u.truncate.withTimer
      ⟨.inSlot 0 0, m.cycle, if u.member.station = .joining then 0 else u.timer.founding, false⟩).withOutput
        (if u.member.station = .member then ⟨.lead, false⟩ else ⟨.idle, false⟩)).withOutbox
          { u.truncate.outbox with
            mark := none, inFlight := if u.outbox.ownMark then none else u.outbox.inFlight }).withLine
              (if u.outbox.ownMark then { u.line with attempts := 0, clashes := 0, broken := none } else u.line) := by
  have kept := State.CycleKept.truncate u
  obtain ⟨-, -, -, -, line, timer, -, -, member, -, -, -⟩ := kept.rest
  have flight : u.truncate.outbox.inFlight = u.outbox.inFlight := by rw [kept.outbox]
  have own : u.truncate.outbox.ownMark = u.outbox.ownMark := by rw [Outbox.ownMark, flight]; rfl
  rw [State.beginMark, State.align_eq, State.withdrawMark_eq, member, timer, ← flight, ← own, ← line]
  rfl

theorem State.atMark_beginMark (m : MarkFields) (on : u.onLine = true) : (u.beginMark m).AtMark where
  onLine := by
    have member : (u.beginMark m).member = u.member := by
      rw [State.beginMark_eq]
      exact u.station_truncate
    rwa [State.onLine, member]
  slot := by
    rw [State.beginMark_eq]
    rfl

/-! ### The run of a MARK -/

/-- The parts of a MARK at the state it leaves for the blocks. -/
theorem State.Completes.mark_run {q : StationId} (h : s.Completes q (.mark m) u) (order : List MarkPart) :
    exec (.markComplete q m order) s = .next ((markOrder order).foldl
      (fun s p => s.part ⟨m, false, u.member.station, u.aligned⟩ p) (u.beginMark m)) := by
  refine congrArg Host.Outcome.next ((State.unlessHeld_of_negated _ h.negated).trans ?_)
  unfold State.markCompletes
  obtain ⟨hears, rfl⟩ | ⟨sends, rfl, rfl⟩ := h
  · rw [State.landing_of_hears hears]
    rfl
  · rw [State.landing_of_sends sends]
    rfl

end Sys2Proof.Machine
end

section
/-!
PROOF. The Peer Table and the Slot Map after a mark, whatever the order of its parts (R15, R16, R50, R51).
-/

namespace Sys2Proof.Machine

variable {s t u w : State} {p : MarkPart} {c : MarkContext} {m : MarkFields}

/-! ### Records -/

/-- The countdown of one record: what is left of it (R16). -/
def countedRecord (k : CycleNumber) (r : HolderRecord) : Option HolderRecord :=
  if (countRecord k r).ranOut = true then none else some (countRecord k r)

theorem countOrphans_eq (k : CycleNumber) (e : SlotEntry) : countOrphans k e = e.filterMap (countedRecord k) := by
  unfold countOrphans
  rw [List.filter_map, ← List.filterMap_eq_map, ← List.filterMap_eq_filter, List.filterMap_filterMap]
  refine List.filterMap_congr fun r _ => ?_
  unfold countedRecord
  cases ran : (countRecord k r).ranOut <;> simp [Option.guard, ran]

/-- A record that takes its orphan part at a mark is not counted down by it (R16). -/
theorem countedRecord_orphanWhere {n : Nat} (positive : 0 < n) (due : StationId → Bool) (k : CycleNumber)
    (r : HolderRecord) : countedRecord k (orphanWhere due k n r) = markedRecord k n due r := by
  unfold markedRecord
  cases orphan : r.orphan with
  | none =>
    have live : r.isLive = true := by simp [HolderRecord.isLive, orphan]
    cases dealt : due r.station with
    | true =>
      have taken : orphanWhere due k n r = { r with orphan := some ⟨k, n⟩ } := if_pos (by simp [dealt, live])
      rw [taken]
      simp [countedRecord, countRecord, HolderRecord.ranOut]
      omega
    | false =>
      rw [orphanWhere_of_not_due dealt]
      simp [countedRecord, countRecord, HolderRecord.ranOut, orphan]
  | some o =>
    have dead : r.isLive = false := by simp [HolderRecord.isLive, orphan]
    rw [orphanWhere_of_orphan due dead]
    by_cases gone : o.marksLeft = 0
    · by_cases same : o.origin = k <;> simp [countedRecord, countRecord, HolderRecord.ranOut, orphan, gone, same]
    · by_cases same : o.origin = k
      · simp [countedRecord, countRecord, HolderRecord.ranOut, orphan, gone, same]
      · by_cases last : o.marksLeft ≤ 1
        · have zero : o.marksLeft - 1 = 0 := by omega
          simp [countedRecord, countRecord, HolderRecord.ranOut, orphan, gone, same, last, zero]
        · have more : ¬ o.marksLeft - 1 = 0 := by omega
          simp [countedRecord, countRecord, HolderRecord.ranOut, orphan, gone, same, last, more]

/-- Counting down before the orphan part is taken, or after it, is the same (R16). -/
theorem orphanWhere_countedRecord (due : StationId → Bool) (k : CycleNumber) {n : Nat} (positive : 0 < n)
    (r : HolderRecord) : (countedRecord k r).map (orphanWhere due k n) = countedRecord k (orphanWhere due k n r) := by
  cases live : r.isLive with
  | true =>
    have orphan : r.orphan = none := by simpa [HolderRecord.isLive] using live
    have stays : countedRecord k r = some r := by
      simp [countedRecord, countRecord, HolderRecord.ranOut, orphan]
    rw [stays, countedRecord_orphanWhere positive]
    cases dealt : due r.station <;> simp [markedRecord, orphan, orphanWhere, live, dealt]
  | false =>
    rw [orphanWhere_of_orphan due live]
    unfold countedRecord
    split
    · rfl
    · rw [Option.map_some, orphanWhere_of_orphan due (by rw [countRecord_isLive, live])]

theorem removeLive_countOrphans (q : StationId) (k : CycleNumber) (e : SlotEntry) :
    countOrphans k (removeLive q e) = removeLive q (countOrphans k e) := by
  unfold countOrphans removeLive
  rw [List.filter_map, List.filter_map, List.filter_map, List.filter_filter, List.filter_filter]
  congr 1
  refine List.filter_congr fun r _ => ?_
  simp [Bool.and_comm, countRecord_isLive]

theorem anyLive_countdown (k : CycleNumber) (x : SlotMap) (q : StationId) :
    (x.countdown k).anyLive q = x.anyLive q := by
  simp [SlotMap.anyLive, listsLive_countOrphans]

/-! ### The tables through the parts beside the silence counts -/

theorem State.AtMark.quiet_peers (h : s.AtMark) {l : List MarkPart} (no : .silence ∉ l) :
    (s.quiet c l).peers = s.peers :=
  h.quiet_const (A := fun p => p ≠ .silence) (π := State.peers)
    (fun _ _ at_t _ ne => (at_t.touched c ne).peers_eq) l fun _ hp same => no (same ▸ hp)

theorem State.AtMark.quiet_map (h : s.AtMark) (own : c.dup = false) {l : List MarkPart} (once : l.Nodup)
    (no : .silence ∉ l) :
    (s.quiet c l).map = if .orphans ∈ l then s.map.countdown c.fields.cycle else s.map :=
  h.quiet_once (A := fun p => p ≠ .silence) (π := State.map) (q := .orphans)
    (f := fun x => x.countdown c.fields.cycle)
    (fun _ _ at_t _ ne ne' => (at_t.touched c ne).map_eq ne')
    (fun t at_t _ => by
      show (if c.dup = true then t else t.orphanPart c.fields.cycle).map = _
      rw [own, if_neg Bool.false_ne_true, State.orphanPart, if_pos at_t.onLine]
      rfl) l once fun _ hp same => no (same ▸ hp)

theorem State.AtMark.quiet_anyLive (h : s.AtMark) (own : c.dup = false) {l : List MarkPart} (once : l.Nodup)
    (no : .silence ∉ l) (q : StationId) : (s.quiet c l).map.anyLive q = s.map.anyLive q := by
  rw [h.quiet_map own once no]
  split
  · exact anyLive_countdown _ _ q
  · rfl

/-! ### The silence counts -/

/-- A mark's silence counts take a MEMBER's live count below Q (R56, R77). -/
def State.Loses (s : State) : Prop :=
  s.member.station = .member ∧ s.cfg.quorum ≤ s.liveCount ∧ s.silenced.liveCount < s.cfg.quorum

theorem State.silencePart_of_loses (on : s.onLine = true) (positive : 0 < s.cfg.expiry) (lost : s.Loses) :
    s.silencePart = s.silenced.quorumLoss := by
  obtain ⟨-, setup, -, member⟩ := s.silenced_frame
  refine (State.silencePart_eq on positive).trans (if_pos ?_)
  rw [member, State.cfg_congr setup]
  exact lost

theorem State.silencePart_of_keeps (on : s.onLine = true) (positive : 0 < s.cfg.expiry) (kept : ¬ s.Loses) :
    s.silencePart = s.silenced := by
  obtain ⟨-, setup, -, member⟩ := s.silenced_frame
  refine (State.silencePart_eq on positive).trans (if_neg ?_)
  rw [member, State.cfg_congr setup]
  exact kept

theorem State.peers_silencePart_eq (on : s.onLine = true) (positive : 0 < s.cfg.expiry) :
    s.silencePart.peers = s.silenced.peers := by
  by_cases lost : s.Loses
  · rw [State.silencePart_of_loses on positive lost]
    exact s.silenced.quorumLoss_frame.2.2.2.2.2.2.1
  · rw [State.silencePart_of_keeps on positive lost]

theorem State.map_silencePart (on : s.onLine = true) (positive : 0 < s.cfg.expiry) (k : SlotIndex) [Decidable s.Loses] :
    s.silencePart.map.get k = if s.Loses then removeLive s.id (s.silenced.map.get k) else s.silenced.map.get k := by
  split
  · next lost =>
    rw [State.silencePart_of_loses on positive lost, State.quorumLoss_eq, State.quorumDropped_eq]
    simp [s.silenced_frame.1]
  · next kept => rw [State.silencePart_of_keeps on positive kept]

/-- The parts before the silence counts, the counts, and the parts behind them. -/
theorem State.quiet_split (own : c.dup = false) (a b : List MarkPart) (s : State) :
    s.quiet c (a ++ .silence :: b) = ((s.quiet c a).silencePart).quiet c b := by
  rw [State.quiet, List.foldl_append, List.foldl_cons, State.quietPart_silence, own, if_neg Bool.false_ne_true]

/-- The tables after all parts of a mark, in whatever order (R15, R16, R50, R51, R77). -/
theorem State.AtMark.quiet_tables (h : s.AtMark) (own : c.dup = false) (positive : 0 < s.cfg.expiry)
    (cycle : s.timer.cycle = c.fields.cycle) {a b : List MarkPart} (parts : Parted a b)
    [Decidable (s.quiet c a).Loses] :
    (s.quiet c (a ++ .silence :: b)).peers = s.silenced.peers ∧
    ∀ k, (s.quiet c (a ++ .silence :: b)).map.get k =
      if (s.quiet c a).Loses then
        removeLive s.id ((s.map.get k).filterMap (markedRecord c.fields.cycle s.cfg.expiry s.dueAtMark))
      else (s.map.get k).filterMap (markedRecord c.fields.cycle s.cfg.expiry s.dueAtMark) := by
  obtain ⟨ha, hb, na, nb, sides⟩ := parts
  have orphans := sides .orphans (by decide)
  have through := h.quiet_through c a
  have here := h.through through
  have positive' : 0 < (s.quiet c a).cfg.expiry := through.cfg_eq ▸ positive
  obtain ⟨samePeers, sameMap⟩ := State.silenced_congr through.id_eq through.rest.2.2.2.1 through.cycle_eq (h.quiet_peers na)
    (fun q _ => h.quiet_anyLive own ha na q) positive
  have after : ((s.quiet c a).silencePart).AtMark := here.through (State.Spared.silencePart _).through
  rw [s.quiet_split own, after.quiet_peers nb, after.quiet_map own hb nb, State.peers_silencePart_eq here.onLine positive', samePeers]
  refine ⟨rfl, fun k => ?_⟩
  have marked (e : SlotEntry) : e.filterMap (markedRecord c.fields.cycle s.cfg.expiry s.dueAtMark) =
      countOrphans c.fields.cycle (e.map (orphanWhere s.dueAtMark c.fields.cycle s.cfg.expiry)) := by
    rw [countOrphans_eq, ← List.filterMap_eq_map, List.filterMap_filterMap]
    exact List.filterMap_congr fun r _ => (countedRecord_orphanWhere positive _ _ _).symm
  have exchange (e : SlotEntry) :
      (countOrphans c.fields.cycle e).map (orphanWhere s.dueAtMark c.fields.cycle s.cfg.expiry) =
      countOrphans c.fields.cycle (e.map (orphanWhere s.dueAtMark c.fields.cycle s.cfg.expiry)) := by
    rw [countOrphans_eq, countOrphans_eq, List.map_filterMap, ← List.filterMap_eq_map, List.filterMap_filterMap]
    exact List.filterMap_congr fun r _ => orphanWhere_countedRecord _ _ positive r
  rw [marked]
  rw [cycle] at sameMap
  by_cases inB : MarkPart.orphans ∈ b
  · have outA : MarkPart.orphans ∉ a := fun inA => (orphans.1 inA) inB
    rw [if_pos inB, SlotMap.get_countdown, State.map_silencePart here.onLine positive', sameMap, h.quiet_map own ha na,
      if_neg outA, through.id_eq]
    split
    · exact removeLive_countOrphans _ _ _
    · rfl
  · have inA : MarkPart.orphans ∈ a := orphans.2 inB
    rw [if_neg inB, State.map_silencePart here.onLine positive', sameMap, h.quiet_map own ha na, if_pos inA,
      SlotMap.get_countdown, exchange, through.id_eq]

end Sys2Proof.Machine
end

section
/-!
PROOF. A MARK at which membership does not end, as one run (Table 2-3), and its silence counts (R50, R51).
-/

namespace Sys2Proof.Machine

variable {s t u w : State} {p : MarkPart} {m : MarkFields} {q : StationId}

/-! ### The state in which the parts are taken -/

/-- What the end of the cycle in progress and the alignment leave of the blocks (R30, R31). -/
theorem State.beginMark_frame (m : MarkFields) (u : State) : (u.beginMark m).id = u.id ∧
    (u.beginMark m).setup = u.setup ∧ (u.beginMark m).map = u.map ∧ (u.beginMark m).peers = u.peers ∧
    (u.beginMark m).member = u.member ∧ (u.beginMark m).sag = u.sag ∧ (u.beginMark m).port = u.port ∧
    (u.beginMark m).snap = u.snap ∧ (u.beginMark m).timer =
      ⟨.inSlot 0 0, m.cycle, if u.member.station = .joining then 0 else u.timer.founding, false⟩ ∧
    (u.beginMark m).holdings = u.truncate.holdings ∧ (u.beginMark m).demands = u.truncate.demands ∧
    (u.beginMark m).notes = u.truncate.notes := by
  obtain ⟨-, -, hid, setup, -, -, map, peers, member, sag, port, snap⟩ := (State.CycleKept.truncate u).rest
  rw [State.beginMark_eq]
  exact ⟨hid, setup, map, peers, member, sag, port, snap, rfl, rfl, rfl, rfl⟩

/-- What the parts of a MARK are taken with at the station it completes at. -/
abbrev markContext (m : MarkFields) (dup : Bool) (u : State) : MarkContext := ⟨m, dup, u.member.station, u.aligned⟩

theorem agrees_iff (m : MarkFields) (c : Setup) : agrees m c = true ↔ Agrees m c := by
  simp [agrees, and_assoc]

/-- The state before the parts, as the station knew itself before the notice completed. -/
theorem State.Completes.beginMark (h : s.Completes q (.mark m) u) : (u.beginMark m).id = s.id ∧
    (u.beginMark m).setup = s.setup ∧ (u.beginMark m).map = s.map ∧ (u.beginMark m).peers = s.peers ∧
    (u.beginMark m).member = s.member ∧ (u.beginMark m).sag = s.sag := by
  obtain ⟨-, -, hid, setup, -, map, peers, member, -, -, -, sag, -⟩ := h.frame
  obtain ⟨hid', setup', map', peers', member', sag', -⟩ := u.beginMark_frame m
  exact ⟨hid'.trans hid, setup'.trans setup, map'.trans map, peers'.trans peers, member'.trans member, sag'.trans sag⟩

theorem State.Completes.atMark (h : s.Completes q (.mark m) u) (on : s.onLine = true) : (u.beginMark m).AtMark :=
  State.atMark_beginMark m (h.onLine_eq.trans on)

theorem State.Completes.cfg_beginMark (h : s.Completes q (.mark m) u) : (u.beginMark m).cfg = s.cfg :=
  State.cfg_congr h.beginMark.2.1

theorem State.was_beginMark (m : MarkFields) (dup : Bool) (u : State) :
    (markContext m dup u).was = .member → (u.beginMark m).member.station = .member := by
  obtain ⟨-, -, -, -, member, -⟩ := u.beginMark_frame m
  rw [member]
  exact fun was => was

/-- The parts that end membership at a MARK (R66, R70, R71). -/
theorem State.endsAt_beginMark (m : MarkFields) (dup : Bool) (u : State) (p : MarkPart) :
    (u.beginMark m).endsAt (markContext m dup u) p ↔
      (p = .agreement ∧ ¬ Agrees m u.cfg) ∨ (p = .duplicateId ∧ dup = true) ∨
      (p = .standing ∧ u.member.station = .member ∧ u.cfg.expiry ≤ u.member.standing + 2) := by
  obtain ⟨-, setup, -, -, member, -⟩ := u.beginMark_frame m
  have cfg : (u.beginMark m).cfg = u.cfg := State.cfg_congr setup
  cases p with
  | agreement =>
    show agrees m (u.beginMark m).cfg = false ↔ _
    rw [cfg, ← agrees_iff]
    simp
  | standing =>
    show (u.member.station = .member ∧ (u.beginMark m).member.station = .member ∧ _) ↔ _
    rw [cfg, member]
    simp
  | _ => simp [State.endsAt]

theorem State.Completes.cfg_eq (h : s.Completes q (.mark m) u) : u.cfg = s.cfg := by
  obtain ⟨-, -, -, setup, -⟩ := h.frame
  exact State.cfg_congr setup

/-- The parts of a mark at which the station stays on are all quiet. -/
theorem State.Completes.stays_run (h : s.Completes q (.mark m) u) (stays : s.StaysOn m) (on : s.onLine = true)
    (order : List MarkPart) : exec (.markComplete q m order) s =
      .next ((u.beginMark m).quiet (markContext m false u) (markOrder order)) := by
  rw [h.mark_run order]
  refine congrArg Host.Outcome.next ((h.atMark on).parts_quiet (u.was_beginMark m false) _
    (nodup_markOrder order) fun p _ ends => ?_)
  obtain ⟨agreement, standing⟩ := stays
  rcases (u.endsAt_beginMark m false p).1 ends with ⟨-, differs⟩ | ⟨-, dup⟩ | ⟨-, member, due⟩
  · rw [h.cfg_eq] at differs
    exact differs (agreement on)
  · cases dup
  · rw [h.member_eq] at member due
    rw [h.cfg_eq] at due
    have := standing member
    omega

/-! ### Silence counts and orphans -/

theorem station_markedRecord {k : CycleNumber} {n : Nat} {due : StationId → Bool} {r r' : HolderRecord}
    (h : markedRecord k n due r = some r') : r'.station = r.station := by
  unfold markedRecord at h
  grind

theorem filter_filterMap_of_keeps {α : Type} {f : α → Option α} {P : α → Bool} (l : List α)
    (keeps : ∀ a b, f a = some b → P b = P a) : (l.filterMap f).filter P = (l.filter P).filterMap f := by
  rw [List.filter_filterMap, List.filterMap_filter]
  refine List.filterMap_congr fun a _ => ?_
  cases hb : f a with
  | none => simp
  | some b => cases hp : P a <;> simp [Option.filter, keeps a b hb, hp]

/-- A quorum loss leaves the records of other stations (R18). -/
theorem removeLive_others (q : StationId) (e : SlotEntry) :
    (removeLive q e).filter (fun r => r.station != q) = e.filter fun r => r.station != q := by
  unfold removeLive
  rw [List.filter_filter]
  refine List.filter_congr fun r _ => ?_
  by_cases own : r.station = q <;> simp [own]

/-- The peers that a mark's silence count brings to E, under the law of silence counts (R50). -/
theorem State.dueAtMark_of_law (law : ∀ q, (s.peers.get q).silence < s.cfg.expiry) (q : StationId) :
    s.dueAtMark q = ((q != s.id && ((s.peers.get q).live || s.map.anyLive q)) &&
      decide (s.cfg.expiry ≤ (s.peers.get q).silence + 1)) := by
  have early := law q
  unfold State.dueAtMark State.raised
  by_cases own : q = s.id
  · simp [own]
  · cases counted : (s.peers.get q).live || s.map.anyLive q with
    | true => simp [own]
    | false =>
      have later : ¬ s.cfg.expiry ≤ (s.peers.get q).silence := by omega
      simp [own, later]

/-- Settles O25: the tables after all parts are the same in every order. -/
theorem markCountsSilenceAndOrphans : Obligations.MarkCountsSilenceAndOrphans := by
  intro s u p m order completes stays on law counted expires
  obtain ⟨hid, setup, map, peers, -, -⟩ := completes.beginMark
  have cfg := completes.cfg_beginMark
  have law' : ∀ q, (s.peers.get q).silence < s.cfg.expiry := law (State.drives_of_onLine on)
  have positive : 0 < s.cfg.expiry := Nat.zero_lt_of_lt (law' 0)
  have due : (u.beginMark m).dueAtMark = expires := by
    funext q
    rw [State.dueAtMark_of_law (by rwa [peers, cfg]), hid, peers, map, cfg]
  obtain ⟨a, b, split, parts⟩ := markOrder_parted order
  classical
  obtain ⟨samePeers, sameMap⟩ := (completes.atMark on).quiet_tables (c := markContext m false u) rfl (by rwa [cfg])
    (by rw [State.beginMark_eq]; rfl) parts
  refine ⟨_, completes.stays_run stays on order, fun q => ?_, fun k => ?_⟩
  · rw [split, samePeers, State.peers_silenced (by rwa [cfg]), due, State.raised, hid, peers, map]
    by_cases here : counted q = true
    · have named : q ≠ s.id ∧ ((s.peers.get q).live || s.map.anyLive q) = true := by
        simpa [counted] using here
      rw [if_pos named, if_pos here]
    · have named : ¬ (q ≠ s.id ∧ ((s.peers.get q).live || s.map.anyLive q) = true) := by
        simpa [counted] using here
      have early : expires q = false := by simp [expires, here]
      rw [if_neg named, if_neg here, early]
  · have others : (((u.beginMark m).quiet (markContext m false u) (markOrder order)).map.get k).filter
        (fun r => r.station != s.id) = ((s.map.get k).filterMap (markedRecord m.cycle s.cfg.expiry expires)).filter
          fun r => r.station != s.id := by
      rw [split, sameMap, due, hid, cfg, map]
      split
      · exact removeLive_others _ _
      · rfl
    rw [others]
    exact filter_filterMap_of_keeps _ fun r r' marked => by rw [station_markedRecord marked]

end Sys2Proof.Machine
end

section
/-!
PROOF. The records that the quiet parts of a mark queue, and the way into MEMBER at a mark (R64, R65).
-/

namespace Sys2Proof.Machine

variable {s t u w : State} {p : MarkPart} {m : MarkFields} {q : StationId} {c : MarkContext}

/-! ### The records of each part -/

theorem recordsOfKind_append (k : Byte) (a b : List Note) :
    recordsOfKind k (a ++ b) = recordsOfKind k a ++ recordsOfKind k b :=
  List.filter_append _ _

/-- The STATE record of a station that a mark makes MEMBER (R65), or none. -/
def State.joinRecords (al : Bool) (s : State) : List Note :=
  if s.member.station = .joining ∧ s.cfg.expiry ≤ s.joinCount al ∧ s.member.ownPresence = true then
    [⟨s.timer.cycle, .state .member .none (s.liveCount + 1)⟩]
  else []

/-- The number of ACTIVE entries once every PENDING one is promoted (R90). -/
def State.promotedCount (s : State) : Nat := ((s.holdings.map Holding.promote).filter Holding.isActive).length

/-- The records that a quiet part of a mark queues; the silence counts stand apart. -/
def State.partRecords (c : MarkContext) (s : State) : MarkPart → List Note
  | .joining => s.joinRecords c.aligned
  | .promotion =>
    if s.member.station = .member then servedRecords s.timer.cycle s.promotedCount s.demands else []
  | .derate => derateRecords s.timer.cycle s.sag.derateRemaining c.fields.derate
  | _ => []

theorem State.AtMark.notes_quietPart (h : s.AtMark) (ne : p ≠ .silence) :
    (s.quietPart c p).notes = s.notes.after (s.partRecords c p) := by
  have still {p : MarkPart} (quiet : p ≠ .silence ∧ p ≠ .joining ∧ p ≠ .promotion ∧ p ≠ .derate) :
      (s.quietPart c p).notes = s.notes.after [] := by
    rw [NotificationQueue.after_nil]
    exact (h.touched c quiet.1).notes_eq quiet.2.1 quiet.2.2.1 quiet.2.2.2
  cases p with
  | silence => exact absurd rfl ne
  | joining =>
    show (s.joiningPart c.aligned).notes = _
    unfold State.partRecords State.joinRecords
    by_cases joining : s.member.station = .joining
    · by_cases due : s.cfg.expiry ≤ s.joinCount c.aligned ∧ s.member.ownPresence = true
      · rw [State.joiningPart_of_due joining h.slot due.1 due.2, State.note_after]
        simp [joining, due]
      · rw [State.joiningPart_of_early joining due]
        simp [due]
    · rw [State.joiningPart, if_neg joining]
      simp [joining]
  | promotion =>
    show s.promotionPart.notes = _
    unfold State.partRecords
    by_cases member : s.member.station = .member
    · rw [State.promotionPart_eq member]
      simp [member, State.promotedCount]
    · rw [State.promotionPart, if_neg member]
      simp [member]
  | derate =>
    show (if s.onLine = true then s.derateFromMark c.fields.derate else s).notes = _
    rw [if_pos h.onLine, State.derateFromMark_eq]
    simp [State.partRecords]
  | _ => exact still (by decide)

theorem State.kind_joinRecords {al : Bool} {n : Note} (h : n ∈ s.joinRecords al) : n.body.kindCode = 5 := by
  unfold State.joinRecords at h
  split at h
  · rw [List.mem_singleton.1 h]
    rfl
  · cases h

theorem kind_servedRecords {k : CycleNumber} {active : Nat} {ds : List Demand} {n : Note}
    (h : n ∈ servedRecords k active ds) : n.body.kindCode = 1 := by
  unfold servedRecords at h
  cases ds with
  | nil => cases h
  | cons d ds =>
    dsimp only at h
    split at h
    · rw [List.mem_singleton.1 h]
      rfl
    · cases h

theorem kind_derateRecords {k : CycleNumber} {before field : Nat} {n : Note} (h : n ∈ derateRecords k before field) :
    n.body.kindCode = 6 := by
  unfold derateRecords at h
  split_ifs at h
  · rw [List.mem_singleton.1 h]
    rfl
  · rw [List.mem_singleton.1 h]
    rfl
  · cases h

/-- Only the joining part of a mark queues records of kind 5, but for the silence counts, which queue none (R65). -/
theorem State.partRecords_kind_five (ne : p ≠ .joining) : recordsOfKind 5 (s.partRecords c p) = [] := by
  refine List.filter_eq_nil_iff.2 fun n hn => ?_
  cases p with
  | joining => exact absurd rfl ne
  | promotion =>
    unfold State.partRecords at hn
    dsimp only at hn
    split at hn
    · simp [kind_servedRecords hn]
    · cases hn
  | derate => simp [kind_derateRecords hn]
  | _ => cases hn

/-- Only the derate part of a mark queues records of kind 6 (R112). -/
theorem State.partRecords_kind_six (ne : p ≠ .derate) : recordsOfKind 6 (s.partRecords c p) = [] := by
  refine List.filter_eq_nil_iff.2 fun n hn => ?_
  cases p with
  | derate => exact absurd rfl ne
  | promotion =>
    unfold State.partRecords at hn
    dsimp only at hn
    split at hn
    · simp [kind_servedRecords hn]
    · cases hn
  | joining => simp [State.kind_joinRecords hn]
  | _ => cases hn

/-! ### The records of a run -/

/-- The records that the listed parts of a mark queue, the silence counts not among them. -/
def State.quietRecords (c : MarkContext) : List MarkPart → State → List Note
  | [], _ => []
  | p :: l, s => s.partRecords c p ++ State.quietRecords c l (s.quietPart c p)

theorem State.AtMark.notes_quiet (h : s.AtMark) {l : List MarkPart} (no : .silence ∉ l) :
    (s.quiet c l).notes = s.notes.after (s.quietRecords c l) := by
  induction l generalizing s with
  | nil => exact (NotificationQueue.after_nil _).symm
  | cons p l ih =>
    rw [List.mem_cons, not_or] at no
    have step := h.quietPart_through c p
    rw [State.quiet, List.foldl_cons, State.quietRecords]
    refine (ih (h.through step) no.2).trans ?_
    rw [h.notes_quietPart (Ne.symm no.1), NotificationQueue.after_append]

/-- The records that one part alone queues it queues once, from what the others leave alone. -/
theorem State.AtMark.quietRecords_filter {α : Type} {K : Note → Bool} {ρ : State → α} {q : MarkPart}
    {E : α → List Note} (h : s.AtMark)
    (other : ∀ t p, t.AtMark → s.Through t → p ≠ .silence → p ≠ q → ρ (t.quietPart c p) = ρ t ∧
      (t.partRecords c p).filter K = [])
    (hit : ∀ t, t.AtMark → s.Through t → (t.partRecords c q).filter K = E (ρ t)) {l : List MarkPart} (once : l.Nodup)
    (no : .silence ∉ l) : (s.quietRecords c l).filter K = if q ∈ l then E (ρ s) else [] := by
  suffices ∀ t, t.AtMark → s.Through t → (t.quietRecords c l).filter K = if q ∈ l then E (ρ t) else [] from
    this s h (.refl s)
  induction l with
  | nil => exact fun t _ _ => rfl
  | cons p l ih =>
    intro t at_t through
    obtain ⟨fresh, once⟩ := List.nodup_cons.1 once
    rw [List.mem_cons, not_or] at no
    have step := at_t.quietPart_through c p
    have rest := ih once no.2 _ (at_t.through step) (through.trans step)
    rw [State.quietRecords, List.filter_append, rest]
    by_cases here : p = q
    · subst here
      rw [hit t at_t through, if_neg fresh, if_pos (by simp), List.append_nil]
    · obtain ⟨same, none⟩ := other t p at_t through (Ne.symm no.1) here
      rw [same, none, List.nil_append]
      simp [Ne.symm here]

/-! ### The joining part -/

/-- The membership and the founding timer after the joining part of a mark (R64, R65). -/
def joinedMember (expiry : Nat) (al : Bool) (x : Membership × Nat) : Membership × Nat :=
  let count := if al then min expiry (x.1.joiningCount + 1) else x.1.joiningCount
  if x.1.station = .joining then
    if expiry ≤ count ∧ x.1.ownPresence = true then
      ({ x.1 with station := .member, joiningCount := count, standing := 0 }, 0)
    else ({ x.1 with joiningCount := count }, x.2)
  else x

/-- The parts of a mark at a station that was JOINING change its membership in the joining part alone. -/
theorem State.AtMark.quiet_member_of_joining (h : s.AtMark) (was : c.was ≠ .member) {l : List MarkPart}
    (once : l.Nodup) : ((s.quiet c l).member, (s.quiet c l).timer.founding) =
      if .joining ∈ l then joinedMember s.cfg.expiry c.aligned (s.member, s.timer.founding)
      else (s.member, s.timer.founding) := by
  refine h.quiet_once (A := fun _ => True) (π := fun t => (t.member, t.timer.founding)) (q := .joining)
    (f := joinedMember s.cfg.expiry c.aligned) (fun t p at_t _ _ ne => ?_) (fun t at_t through => ?_) l once
    (fun _ _ => trivial)
  · by_cases silence : p = .silence
    · obtain ⟨-, -, -, -, -, timer, member, -⟩ := (t.quietPart_silence_spared c).rest
      rw [silence, timer, member]
    · have timer := (at_t.touched c silence).timer_eq ne
      by_cases standing : p = .standing
      · have still : t.quietPart c .standing = t := if_neg fun both => was both.1
        rw [standing, still]
      · rw [timer, (at_t.touched c silence).member_eq standing ne]
  · show ((t.joiningPart c.aligned).member, (t.joiningPart c.aligned).timer.founding) = _
    unfold joinedMember
    rw [← through.cfg_eq]
    by_cases joining : t.member.station = .joining
    · by_cases due : t.cfg.expiry ≤ t.joinCount c.aligned ∧ t.member.ownPresence = true
      · rw [State.joiningPart_of_due joining at_t.slot due.1 due.2, State.note_after, if_pos joining]
        exact (if_pos due).symm
      · rw [State.joiningPart_of_early joining due, if_pos joining]
        exact (if_neg due).symm
    · rw [State.joiningPart, if_neg joining, if_neg joining]

/-- The STATE records of the parts beside the silence counts, at a station that was JOINING (R65). -/
theorem State.AtMark.quiet_joinRecords (h : s.AtMark) (was : c.was ≠ .member) {l : List MarkPart} (once : l.Nodup)
    (no : .silence ∉ l) :
    recordsOfKind 5 (s.quietRecords c l) = if .joining ∈ l then s.joinRecords c.aligned else [] := by
  refine h.quietRecords_filter (ρ := State.joinRecords c.aligned) (q := .joining) (E := fun x => x)
    (fun t p at_t through ne ne' => ⟨?_, State.partRecords_kind_five ne'⟩) (fun t at_t through => ?_) once no
  · have touched := at_t.touched c ne
    have member : (t.quietPart c p).member = t.member := by
      by_cases standing : p = .standing
      · have still : t.quietPart c .standing = t := if_neg fun both => was both.1
        rw [standing, still]
      · exact touched.member_eq standing ne'
    have cfg := (at_t.quietPart_through c p).cfg_eq
    have live : (t.quietPart c p).liveCount = t.liveCount :=
      State.liveCount_congr (fun _ => by rw [touched.peers_eq]) (by rw [member])
    unfold State.joinRecords State.joinCount
    rw [member, cfg, live, touched.timer_eq ne']
  · exact List.filter_eq_self.2 fun n hn => by simp [State.kind_joinRecords hn]

/-- The records of the parts before the silence counts, of the counts, and of the parts behind them. -/
theorem State.AtMark.notes_split (h : s.AtMark) {a b : List MarkPart} (parts : Parted a b) {ns : List Note}
    (silence : ((s.quiet c a).quietPart c .silence).notes = (s.quiet c a).notes.after ns) :
    (s.quiet c (a ++ .silence :: b)).notes = s.notes.after
      (s.quietRecords c a ++ ns ++ ((s.quiet c a).quietPart c .silence).quietRecords c b) := by
  have here := h.through (h.quiet_through c a)
  have after := here.through (here.quietPart_through c .silence)
  rw [State.quiet, List.foldl_append, List.foldl_cons]
  refine (after.notes_quiet parts.notBehind).trans ?_
  rw [silence, h.notes_quiet parts.notBefore, NotificationQueue.after_append, NotificationQueue.after_append,
    List.append_assoc]

/-- The STATE record of a mark carries the live count as it stands before or after the silence counts (R56, R65). -/
theorem State.AtMark.quiet_stateRecords (h : s.AtMark) (was : c.was ≠ .member) {a b : List MarkPart}
    (parts : Parted a b) : ∃ ns, (s.quiet c (a ++ .silence :: b)).notes = s.notes.after ns ∧
      ∃ y : State, y.member = s.member ∧ y.timer = s.timer ∧ y.cfg = s.cfg ∧ recordsOfKind 5 ns = y.joinRecords c.aligned ∧
        (y = s ∨ y.peers = (s.quiet c (a ++ .silence :: b)).peers) := by
  have through := h.quiet_through c a
  have here := h.through through
  have spared := (s.quiet c a).quietPart_silence_spared c
  have after := here.through spared.through
  obtain ⟨ns, silence, kinds⟩ := spared.notes
  have none : recordsOfKind 5 ns = [] := List.filter_eq_nil_iff.2 fun n hn => by simpa using (kinds n hn).1
  have split : s.quiet c (a ++ .silence :: b) = ((s.quiet c a).quietPart c .silence).quiet c b := by
    rw [State.quiet, List.foldl_append, List.foldl_cons]
  refine ⟨_, h.notes_split parts silence, ?_⟩
  rw [recordsOfKind_append, recordsOfKind_append, none, List.append_nil, h.quiet_joinRecords was parts.before parts.notBefore,
    after.quiet_joinRecords was parts.behind parts.notBehind, split]
  rcases parts.once (q := .joining) (by decide) with ⟨early, notLate⟩ | ⟨notEarly, late⟩
  · rw [if_pos early, if_neg notLate, List.append_nil]
    exact ⟨s, rfl, rfl, rfl, rfl, .inl rfl⟩
  · rw [if_neg notEarly, if_pos late, List.nil_append]
    obtain ⟨-, -, -, -, -, timer, member, -⟩ := spared.rest
    have same := h.quiet_member_of_joining was parts.before
    rw [if_neg notEarly] at same
    obtain ⟨sameMember, sameFounding⟩ := Prod.mk.inj same
    refine ⟨_, member.trans sameMember, timer.trans ?_, spared.through.cfg_eq.trans through.cfg_eq, rfl, .inr
      (after.quiet_peers parts.notBehind).symm⟩
    rw [through.timer, sameFounding]

/-- Settles O28: the joining part of a mark is taken once, and the STATE record carries what it finds there. -/
theorem markCountsTowardMembership : Obligations.MarkCountsTowardMembership := by
  intro s u p m order completes joining agree count
  have on : s.onLine = true := by simp [State.onLine, joining]
  have stays : s.StaysOn m := ⟨fun _ => agree, fun member => by rw [joining] at member; cases member⟩
  have at_w := completes.atMark on
  have cfg := completes.cfg_beginMark
  obtain ⟨-, -, -, peers, member, -⟩ := completes.beginMark
  have was : (markContext m false u).was ≠ .member := by
    show u.member.station ≠ .member
    rw [completes.member_eq, joining]
    decide
  have al : (markContext m false u).aligned = s.aligned := by
    obtain ⟨-, -, -, -, timer, -⟩ := completes.frame
    show u.aligned = _
    rw [State.aligned, timer]
    rfl
  have notes : (u.beginMark m).notes = s.notes := by
    obtain ⟨-, -, -, -, -, -, -, -, -, -, -, notes⟩ := u.beginMark_frame m
    obtain ⟨-, -, -, -, -, -, -, -, -, -, -, -, -, -, notes', -⟩ := completes.frame
    rw [notes, State.truncate_of_not_member was, notes']
  have cycle : (u.beginMark m).timer.cycle = m.cycle := by
    rw [State.beginMark_eq]
    rfl
  obtain ⟨a, b, split, parts⟩ := markOrder_parted order
  have joined := at_w.quiet_member_of_joining was (nodup_markOrder order)
  rw [if_pos (mem_markOrder order .joining), cfg, al, member] at joined
  have live : (u.beginMark m).liveCount = s.liveCount := State.liveCount_congr (fun _ => by rw [peers]) (by rw [member])
  obtain ⟨ns, records, y, yMember, yTimer, yCfg, five, source⟩ :=
    at_w.quiet_stateRecords was parts
  rw [← split] at records source
  refine ⟨_, ns, completes.stays_run stays on order, notes ▸ records, fun reached own => ?_, fun early => ?_⟩
  · unfold joinedMember at joined
    rw [if_pos joining] at joined
    obtain ⟨isMember, founding⟩ := Prod.mk.inj (joined.trans (if_pos ⟨reached, own⟩))
    refine ⟨isMember, founding, y.liveCount + 1, ?_, ?_⟩
    · rw [five, State.joinRecords, yMember, yTimer, cycle, al]
      refine if_pos ⟨member ▸ joining, ?_, member ▸ own⟩
      rw [State.joinCount, yCfg, yMember, cfg, member]
      exact reached
    · rcases source with rfl | samePeers
      · exact .inl (congrArg (· + 1) live)
      · right
        have still : y.member.station = .joining := by rw [yMember, member, joining]
        rw [State.liveCount_eq, State.liveCount_eq, samePeers, isMember, still]
        simp
  · have notDue : ¬ (s.cfg.expiry ≤ count ∧ s.member.ownPresence = true) := by
      rintro ⟨reached, own⟩
      rcases early with below | absent
      · omega
      · rw [own] at absent
        cases absent
    unfold joinedMember at joined
    rw [if_pos joining] at joined
    obtain ⟨counted, -⟩ := Prod.mk.inj (joined.trans (if_neg notDue))
    refine ⟨counted, ?_⟩
    rw [five, State.joinRecords, al]
    refine if_neg fun due => notDue ?_
    rw [State.joinCount, yCfg, yMember, cfg, member] at due
    exact due.2

end Sys2Proof.Machine
end

section
/-!
PROOF. A MARK that ends membership, and the notices that a station does not apply (R66, R70, R71, R141).
-/

namespace Sys2Proof.Machine

variable {s t u w : State} {p : MarkPart} {m : MarkFields} {q : StationId} {c : MarkContext}

/-! ### The records before the end -/

/-- Through quiet parts a STATE record is queued at most once, at a JOINING station that they make MEMBER (R65). -/
theorem State.AtMark.quiet_kind_five (h : s.AtMark) (l : List MarkPart) :
    ∃ ns, (s.quiet c l).notes = s.notes.after ns ∧ (recordsOfKind 5 ns = [] ∨ s.member.station = .joining ∧
      ∃ live, recordsOfKind 5 ns = [⟨s.timer.cycle, .state .member .none live⟩]) := by
  induction l generalizing s with
  | nil => exact ⟨[], by simp, .inl rfl⟩
  | cons p l ih =>
    have through := h.quietPart_through c p
    obtain ⟨ms, later, records⟩ := ih (h.through through)
    have silent {ns : List Note} (now : (s.quietPart c p).notes = s.notes.after ns) (none : recordsOfKind 5 ns = [])
        (joining : (s.quietPart c p).member.station = .joining → s.member.station = .joining) :
        ∃ ns, (s.quiet c (p :: l)).notes = s.notes.after ns ∧ (recordsOfKind 5 ns = [] ∨ s.member.station = .joining ∧
          ∃ live, recordsOfKind 5 ns = [⟨s.timer.cycle, .state .member .none live⟩]) := by
      refine ⟨ns ++ ms, later.trans (by rw [now, NotificationQueue.after_append]), ?_⟩
      rw [recordsOfKind_append, none, List.nil_append, ← through.cycle_eq]
      exact records.imp_right fun ⟨is, record⟩ => ⟨joining is, record⟩
    have was (is : (s.quietPart c p).member.station = .joining) : s.member.station = .joining := by
      rcases through.station with same | ⟨-, member⟩
      · exact same.symm.trans is
      · rw [member] at is
        cases is
    by_cases silence : p = .silence
    · obtain ⟨ns, now, kinds⟩ := (s.quietPart_silence_spared c).notes
      subst silence
      exact silent now (List.filter_eq_nil_iff.2 fun n hn => by simpa using (kinds n hn).1) was
    have now := h.notes_quietPart (c := c) silence
    by_cases joins : p = .joining
    · subst joins
      by_cases due : s.member.station = .joining ∧ s.cfg.expiry ≤ s.joinCount c.aligned ∧ s.member.ownPresence = true
      · have record : s.partRecords c .joining = [⟨s.timer.cycle, .state .member .none (s.liveCount + 1)⟩] := if_pos due
        have member : (s.quietPart c .joining).member.station = .member := by
          show (s.joiningPart c.aligned).member.station = .member
          rw [State.joiningPart_of_due due.1 h.slot due.2.1 due.2.2, State.note_after]
          rfl
        have after : recordsOfKind 5 ms = [] :=
          records.resolve_right fun ⟨joining, _⟩ => by rw [member] at joining; cases joining
        refine ⟨s.partRecords c .joining ++ ms, later.trans (by rw [now, NotificationQueue.after_append]),
          .inr ⟨due.1, s.liveCount + 1, ?_⟩⟩
        rw [recordsOfKind_append, after, record, List.append_nil]
        rfl
      · have none : s.partRecords c .joining = [] := if_neg due
        exact silent now (by rw [none]; rfl) was
    · exact silent now (State.partRecords_kind_five joins) was

/-! ### Dropping out -/

theorem clearServed_head {ds : List Demand} {d : Demand} (h : (clearServed ds).head? = some d) : d.served = false := by
  cases ds with
  | nil => cases h
  | cons e es =>
    cases h
    rfl

/-- The records of a station that drops out, behind those of the parts before (R68, R72). -/
def State.DropRecords (x before : State) (k : CycleNumber) : Prop :=
  ∃ ns, x.notes = before.notes.after ns ∧ (recordsOfKind 5 ns = [] ∨ before.member.station = .joining ∧
    ∃ live, recordsOfKind 5 ns = [⟨k, .state .member .none live⟩])

theorem State.DropRecords.then_state {x before : State} {k : CycleNumber} (h : x.DropRecords before k)
    (now : StationState) (why : Cause) : ∃ queued first : List Note,
      x.notes.after [⟨k, .state now why 0⟩] = before.notes.after queued ∧
      recordsOfKind 5 queued = first ++ [⟨k, .state now why 0⟩] ∧
      (first = [] ∨ before.member.station = .joining ∧ ∃ live, first = [⟨k, .state .member .none live⟩]) := by
  obtain ⟨ns, notes, records⟩ := h
  refine ⟨ns ++ [⟨k, .state now why 0⟩], recordsOfKind 5 ns, ?_, recordsOfKind_append _ _ _, records⟩
  rw [notes, NotificationQueue.after_append]

theorem State.enterFaulted_droppedOut {x before : State} (records : x.DropRecords before x.timer.cycle) (why : Cause) :
    (x.enterFaulted why).DroppedOut before x.timer.cycle .faulted why ∧
    (x.enterFaulted why).timer.phase = .unaligned := by
  rw [State.enterFaulted_note, State.note_after, State.faulted_eq]
  exact ⟨⟨rfl, rfl, rfl, rfl, rfl, rfl, rfl, rfl, rfl, rfl, fun _ => clearServed_head,
    records.then_state .faulted why⟩, rfl⟩

theorem State.enterLapsed_droppedOut {x before : State} (records : x.DropRecords before x.timer.cycle) (why : Cause) :
    (x.enterLapsed why).DroppedOut before x.timer.cycle .lapsed why ∧
    (x.enterLapsed why).timer = { x.timer with founding := 0 } ∧ (x.enterLapsed why).member.lapseWait = 0 := by
  rw [State.enterLapsed_note, State.note_after, State.lapsed_eq]
  exact ⟨⟨rfl, rfl, rfl, rfl, rfl, rfl, rfl, rfl, rfl, rfl, fun _ => clearServed_head,
    records.then_state .lapsed why⟩, rfl, rfl⟩

/-- What a part that ends membership makes of the station (R66, R68, R70, R71, R72). -/
def State.Ended (t before : State) (k : CycleNumber) : MarkPart → Prop
  | .agreement => t.DroppedOut before k .faulted .faultParameter ∧ t.timer.phase = .unaligned
  | .duplicateId => t.DroppedOut before k .faulted .faultDuplicate ∧ t.timer.phase = .unaligned
  | .standing => t.DroppedOut before k .lapsed .lapsedSend ∧ t.timer = ⟨.inSlot 0 0, k, 0, false⟩ ∧
    t.member.lapseWait = 0
  | _ => False

/-- Which parts of a MARK end membership at a station (R66, R70, R71). -/
def State.Ends (u : State) (m : MarkFields) (dup : Bool) (p : MarkPart) : Prop :=
  (p = .agreement ∧ ¬ Agrees m u.cfg) ∨ (p = .duplicateId ∧ dup = true) ∨
  (p = .standing ∧ u.member.station = .member ∧ u.cfg.expiry ≤ u.member.standing + 2)

/-- A MARK that ends membership ends it by the first part in its order that does (R66, R70, R71). -/
theorem State.ends_run (u : State) (m : MarkFields) (dup : Bool) (on : u.onLine = true) (order : List MarkPart)
    (some_ends : ∃ p, u.Ends m dup p) : ∃ p, u.Ends m dup p ∧
      ((markOrder order).foldl (fun s p => s.part (markContext m dup u) p) (u.beginMark m)).Ended u.truncate m.cycle p ∧
      ∀ q, (markOrder order).head? = some q → u.Ends m dup q → p = q := by
  have at_w := State.atMark_beginMark m on
  have endsAt := u.endsAt_beginMark m dup
  obtain ⟨front, p, -, ends, -, before, -, head, run⟩ := at_w.parts_end (u.was_beginMark m dup) (markOrder order)
    (nodup_markOrder order) (some_ends.imp fun p hp => ⟨mem_markOrder order p, (endsAt p).2 hp⟩)
  refine ⟨p, (endsAt p).1 ends, ?_, fun q hq qEnds => ?_⟩
  · rw [run]
    have through := at_w.quiet_through (markContext m dup u) front
    obtain ⟨-, -, -, -, member, -, -, -, timer, -, -, notes⟩ := u.beginMark_frame m
    have cycle : ((u.beginMark m).quiet (markContext m dup u) front).timer.cycle = m.cycle := by
      rw [through.cycle_eq, timer]
    have records : ((u.beginMark m).quiet (markContext m dup u) front).DropRecords u.truncate m.cycle := by
      obtain ⟨ns, queued, kinds⟩ := at_w.quiet_kind_five (c := markContext m dup u) front
      rw [notes] at queued
      rw [member, ← u.station_truncate, timer] at kinds
      exact ⟨ns, queued, kinds⟩
    rw [← cycle] at records ⊢
    rcases (endsAt p).1 ends with ⟨rfl, -⟩ | ⟨rfl, -⟩ | ⟨rfl, -⟩
    · exact State.enterFaulted_droppedOut records _
    · exact State.enterFaulted_droppedOut records _
    · obtain ⟨dropped, clock, wait⟩ := State.enterLapsed_droppedOut
        (x := ((u.beginMark m).quiet (markContext m dup u) front).withMember
          { ((u.beginMark m).quiet (markContext m dup u) front).member with
            standing := ((u.beginMark m).quiet (markContext m dup u) front).member.standing + 1 }) records .lapsedSend
      refine ⟨dropped, clock.trans ?_, wait⟩
      have still : (((u.beginMark m).quiet (markContext m dup u) front)).timer = _ := through.timer
      rw [State.timer_withMember, still, timer]
  · rw [hq] at head
    cases front with
    | nil => simpa using head.symm
    | cons x front =>
      have same : q = x := by simpa using head
      exact absurd ((endsAt q).2 qEnds) (same ▸ before x (by simp))

/-- A part that the order names first is taken first. -/
theorem head_markOrder (p : MarkPart) : (markOrder [p]).head? = some p := rfl

/-- Settles O24: the first part in the order that ends membership ends it. -/
theorem markEndsMembership : Obligations.MarkEndsMembership := by
  intro s u p m order completes on due faults lapses
  have on' : u.onLine = true := completes.onLine_eq.trans on
  have ends (part : MarkPart) : u.Ends m false part ↔
      (part = .agreement ∧ ¬ Agrees m s.cfg) ∨ (part = .standing ∧ due) := by
    unfold State.Ends
    rw [completes.cfg_eq, completes.member_eq]
    simp [due]
  have run (order : List MarkPart) (some_ends : ¬ Agrees m s.cfg ∨ due) : ∃ t part,
      exec (.markComplete p m order) s = .next t ∧
      ((part = .agreement ∧ ¬ Agrees m s.cfg ∧ faults t) ∨ (part = .standing ∧ due ∧ lapses t)) ∧
      ∀ q, (markOrder order).head? = some q → u.Ends m false q → part = q := by
    obtain ⟨part, hp, ended, first⟩ := u.ends_run m false on' order
      (some_ends.elim (fun h => ⟨_, (ends _).2 (.inl ⟨rfl, h⟩)⟩) fun h => ⟨_, (ends _).2 (.inr ⟨rfl, h⟩)⟩)
    refine ⟨_, part, completes.mark_run order, ?_, first⟩
    rcases (ends part).1 hp with ⟨rfl, differs⟩ | ⟨rfl, isDue⟩
    · exact .inl ⟨rfl, differs, ended⟩
    · exact .inr ⟨rfl, isDue, ended⟩
  refine ⟨?_, fun differs isDue => ?_⟩
  · by_cases some_ends : ¬ Agrees m s.cfg ∨ due
    · obtain ⟨t, part, ran, ended, -⟩ := run order some_ends
      refine ⟨t, ran, fun _ notDue => ?_, fun agree _ => ?_, fun _ _ => ?_⟩
      · rcases ended with ⟨-, -, fault⟩ | ⟨-, isDue, -⟩
        · exact fault
        · exact absurd isDue notDue
      · rcases ended with ⟨-, differs, -⟩ | ⟨-, -, lapse⟩
        · exact absurd agree differs
        · exact lapse
      · exact ended.imp (fun h => h.2.2) fun h => h.2.2
    · rw [not_or] at some_ends
      exact ⟨_, completes.mark_run order, fun differs => absurd differs some_ends.1, fun _ isDue =>
        absurd isDue some_ends.2, fun differs => absurd differs some_ends.1⟩
  · obtain ⟨t₁, part₁, ran₁, ended₁, first₁⟩ := run [.agreement] (.inl differs)
    obtain ⟨t₂, part₂, ran₂, ended₂, first₂⟩ := run [.standing] (.inr isDue)
    have is₁ := first₁ _ (head_markOrder _) ((ends _).2 (.inl ⟨rfl, differs⟩))
    have is₂ := first₂ _ (head_markOrder _) ((ends _).2 (.inr ⟨rfl, isDue⟩))
    subst is₁ is₂
    refine ⟨_, _, t₁, t₂, ran₁, ?_, ran₂, ?_⟩
    · exact (ended₁.resolve_right fun h => nomatch h.1).2.2
    · exact (ended₂.resolve_left fun h => nomatch h.1).2.2

/-! ### Notices that are not applied -/

theorem State.landing_of_deaf (deaf : s.listens = false) (q : StationId) (n : Notice) : s.landing q n = .unheard :=
  if_pos deaf

theorem State.complete_of_deaf (deaf : s.listens = false) (q : StationId) (n : Notice) (own other : State → State) :
    s.complete q n own other = s := by
  rw [State.complete, State.landing_of_deaf deaf]

/-- What a station in LEAVING hears of its own notice: the end of its LEAVE, and an announced priority (R74, R87). -/
def State.hearsLeaving (n : Notice) (s : State) : State :=
  match n with
  | .leave => s.endLeaving
  | .presence f => s.withPlanner { s.planner with announcedPriority := f.priority }
  | .claim f => s.withPlanner { s.planner with announcedPriority := f.priority }
  | _ => s

/-- A notice other than a MARK is one completion, whose blocks do nothing off the line, and whose sender in LEAVING
hears the end of its LEAVE alone, but for the announced priority (R74, R87). -/
structure Completion (q : StationId) (n : Notice) (i : Instr) (own other : State → State) : Prop where
  run : ∀ s, exec i s = .next (s.unlessHeld fun s => s.complete q n own other)
  off : ∀ s : State, s.onLine = false → other s = s
  leaving : ∀ s : State, s.member.station = .leaving → own s = s.hearsLeaving n

theorem State.not_onLine_of_leaving (h : s.member.station = .leaving) : ¬ s.onLine = true := by
  simp [State.onLine, h]

theorem completion_of_command {q : StationId} {n : Notice} {i : Instr}
    (h : (n = .sag ∧ i = .sagComplete q) ∨ (∃ t x, n = .contest t x ∧ i = .contestComplete q t x) ∨
      (∃ x, n = .release x ∧ i = .releaseComplete q x) ∨ (n = .leave ∧ i = .leaveComplete q) ∨
      (∃ f, n = .presence f ∧ i = .presenceComplete q f) ∨ (∃ f, n = .claim f ∧ i = .claimComplete q f)) :
    ∃ own other, Completion q n i own other := by
  have not_on {s : State} (off : s.onLine = false) : ¬ s.onLine = true := by simp [off]
  rcases h with ⟨rfl, rfl⟩ | ⟨t, x, rfl, rfl⟩ | ⟨x, rfl, rfl⟩ | ⟨rfl, rfl⟩ | ⟨f, rfl, rfl⟩ | ⟨f, rfl, rfl⟩
  · exact ⟨_, _, fun _ => rfl, fun _ off => if_neg (not_on off), fun _ l => if_neg (State.not_onLine_of_leaving l)⟩
  · exact ⟨_, _, fun _ => rfl, fun _ off => if_neg (not_on off), fun _ l => if_neg (State.not_onLine_of_leaving l)⟩
  · exact ⟨_, _, fun _ => rfl, fun _ off => if_neg (not_on off), fun _ l => if_neg (State.not_onLine_of_leaving l)⟩
  · exact ⟨_, _, fun _ => rfl, fun _ off => if_neg (not_on off), fun _ l => if_pos l⟩
  · refine ⟨_, _, fun _ => rfl, fun _ off => if_neg (not_on off), fun s l => ?_⟩
    exact if_neg (State.not_onLine_of_leaving (s := s.announce f.priority) l)
  · refine ⟨_, _, fun _ => rfl, fun _ off => if_neg (not_on off), fun s l => ?_⟩
    have notMember : ¬ (s.announce f.priority).member.station = .member := by
      show ¬ s.member.station = .member
      rw [l]
      decide
    exact if_neg notMember

/-- A MARK under this station's ID that it has not sent is taken as a duplicate (R141). -/
theorem State.duplicateMark_run (h : s.Receives s.id (.mark m)) (on : s.onLine = true) (order : List MarkPart) :
    exec (.markComplete s.id m order) s = .next ((markOrder order).foldl
      (fun y p => y.part (markContext m true s.afterHeard) p) (s.afterHeard.beginMark m)) := by
  refine congrArg Host.Outcome.next ((State.unlessHeld_of_negated _ h.1).trans ?_)
  unfold State.markCompletes
  rw [State.landing_of_receives h, if_pos ⟨rfl, on⟩]
  rfl

/-- Off the line a station takes a MARK under any ID alike (R74, R141). -/
theorem State.markOff_run (h : s.Receives s.id (.mark m)) (off : s.onLine = false) (q : StationId)
    (order : List MarkPart) : exec (.markComplete q m order) s = .next (s.afterHeard.applyMark m false order) := by
  have received : s.Receives q (.mark m) := h
  refine congrArg Host.Outcome.next ((State.unlessHeld_of_negated _ h.1).trans ?_)
  unfold State.markCompletes
  rw [State.landing_of_receives received, if_neg fun both => by rw [off] at both; cases both.2]

/-- Settles O39: how the notice lands decides, and the order of the parts of a duplicate MARK. -/
theorem noticesThatAreNotApplied : Obligations.NoticesThatAreNotApplied := by
  refine ⟨fun s p n i negated command => ?_, fun s p m order deaf => ?_, fun s m order received => ?_⟩
  · obtain ⟨own, other, run, off, leaving⟩ := completion_of_command command
    have runs : exec i s = .next (s.complete p n own other) := by
      rw [run, State.unlessHeld_of_negated _ negated]
    refine ⟨fun deaf => ?_, fun received same on => ?_, fun received away => ?_, fun sends same leaves => ?_⟩
    · rw [runs, State.complete_of_deaf deaf]
    · rw [runs, State.complete, State.landing_of_receives received, if_pos ⟨same, on⟩]
    · rw [runs, State.complete, State.landing_of_receives received, if_neg fun both => by rw [away] at both; cases both.2]
      exact congrArg Host.Outcome.next (off _ away)
    · subst same
      rw [runs, State.complete, State.landing_of_sends sends]
      refine congrArg Host.Outcome.next ((leaving s.afterSent leaves).trans ?_)
      cases n <;> rfl
  · refine congrArg Host.Outcome.next ?_
    have unheard : s.markCompletes p m order = s := by
      unfold State.markCompletes
      rw [State.landing_of_deaf deaf]
    unfold State.unlessHeld
    split
    · rfl
    · exact unheard
  · intro due ends duplicate
    refine ⟨fun on => ?_, fun off p => ?_⟩
    · have on' : s.afterHeard.onLine = true := on
      have dup : s.afterHeard.Ends m true .duplicateId := .inr (.inl ⟨rfl, rfl⟩)
      constructor
      · obtain ⟨part, hp, ended, -⟩ := s.afterHeard.ends_run m true on' order ⟨_, dup⟩
        refine ⟨_, State.duplicateMark_run received on order, ?_⟩
        rcases hp with ⟨rfl, differs⟩ | ⟨rfl, -⟩ | ⟨rfl, isDue⟩
        · exact .inr (.inl ⟨differs, ended⟩)
        · exact .inl ended
        · exact .inr (.inr ⟨isDue, ended⟩)
      · obtain ⟨part, -, ended, first⟩ := s.afterHeard.ends_run m true on' [.duplicateId] ⟨_, dup⟩
        have is := first _ (head_markOrder _) dup
        subst is
        exact ⟨_, _, State.duplicateMark_run received on _, ended⟩
    · rw [State.markOff_run received off, State.markOff_run received off]

end Sys2Proof.Machine
end

section
/-!
PROOF. What the quiet parts of a mark bring about, block by block (Table 2-3).
-/

namespace Sys2Proof.Machine

variable {s t u w : State} {p : MarkPart} {m : MarkFields} {q : StationId} {c : MarkContext} {l : List MarkPart}

/-! ### Blocks that the silence counts leave alone -/

/-- What the other parts and the silence counts leave of a block, a part's own change apart. -/
theorem State.AtMark.quiet_block {α : Type} {π : State → α} {q : MarkPart} {f : α → α} (h : s.AtMark)
    (touched : ∀ t u p, t.AtMark → s.Through t → State.Touched t p u → p ≠ q → u = t.quietPart c p → π u = π t)
    (spared : ∀ t u, State.Spared t u → π u = π t)
    (hit : ∀ t, t.AtMark → s.Through t → π (t.quietPart c q) = f (π t)) (once : l.Nodup) :
    π (s.quiet c l) = if q ∈ l then f (π s) else π s :=
  h.quiet_once (A := fun _ => True)
    (fun t p at_t through _ ne => by
      by_cases silence : p = .silence
      · rw [silence]
        exact spared _ _ (t.quietPart_silence_spared c)
      · exact touched _ _ _ at_t through (at_t.touched c silence) ne rfl) hit l once fun _ _ => trivial

/-- The Sag Monitor after the derate part of a mark (R112). -/
def derateTaken (field : Nat) (x : SagMonitor) : SagMonitor :=
  { x with
    derateRemaining := field
    windowOpen :=
      if x.derateRemaining = 0 ∧ 0 < field then true
      else if 0 < x.derateRemaining ∧ field = 0 then false
      else x.windowOpen }

theorem State.AtMark.quiet_sag (h : s.AtMark) (once : l.Nodup) :
    (s.quiet c l).sag = if .derate ∈ l then derateTaken c.fields.derate s.sag else s.sag :=
  h.quiet_block (π := State.sag) (fun _ _ _ _ _ touched ne _ => touched.sag_eq ne)
    (fun _ _ spared => spared.rest.2.2.2.2.2.2.2.1)
    (fun t at_t _ => by
      show (if t.onLine = true then t.derateFromMark c.fields.derate else t).sag = _
      rw [if_pos at_t.onLine, State.derateFromMark_eq]
      rfl) once

/-- The local hold counter and the yield hold after a mark (R102). -/
def holdsTaken (field : Nat) (x : Nat × Bool) : Nat × Bool := (x.1 - 1, x.2 && !decide (x.1 - 1 = 0 ∧ field = 0))

theorem State.AtMark.quiet_localHold (h : s.AtMark) (once : l.Nodup) :
    ((s.quiet c l).planner.localHold, (s.quiet c l).planner.yieldHold) =
      if .localHold ∈ l then holdsTaken c.fields.derate (s.planner.localHold, s.planner.yieldHold)
      else (s.planner.localHold, s.planner.yieldHold) :=
  h.quiet_block (π := fun t => (t.planner.localHold, t.planner.yieldHold))
    (fun _ _ _ _ _ touched ne _ => by rw [touched.planner_eq ne]) (fun _ _ spared => by rw [spared.planner])
    (fun t at_t _ => by
      show ((t.localHoldPart c.fields.derate).planner.localHold, (t.localHoldPart c.fields.derate).planner.yieldHold) = _
      rw [State.localHoldPart_eq _ at_t.onLine]
      rfl) once

theorem State.AtMark.quiet_presence (h : s.AtMark) (own : c.dup = false) (once : l.Nodup) :
    (s.quiet c l).outbox.presence = if .presence ∈ l then
      s.outbox.presence || decide (c.fields.cycle.toNat % s.cfg.period = s.id.val % s.cfg.period)
      else s.outbox.presence :=
  h.quiet_block (π := fun t => t.outbox.presence)
    (f := fun b => b || decide (c.fields.cycle.toNat % s.cfg.period = s.id.val % s.cfg.period))
    (fun _ _ _ _ _ touched ne _ => touched.presenceFlag_eq ne) (fun _ _ spared => by rw [spared.outbox])
    (fun t at_t through => by
      show (if c.dup = true then t else t.presencePart c.fields.cycle).outbox.presence = _
      rw [own, if_neg Bool.false_ne_true, State.presencePart_eq _ at_t.onLine, through.cfg_eq, through.id_eq]
      rfl) once

theorem State.AtMark.quiet_sagFlag (h : s.AtMark) (once : l.Nodup) :
    (s.quiet c l).outbox.sag = if .sagExtension ∈ l then
      s.outbox.sag || (decide (s.cfg.sagMode = .shared ∧ c.fields.derate ≤ 1) && s.sag.condition)
      else s.outbox.sag :=
  h.quiet_block (π := fun t => t.outbox.sag)
    (f := fun b => b || (decide (s.cfg.sagMode = .shared ∧ c.fields.derate ≤ 1) && s.sag.condition))
    (fun _ _ _ _ _ touched ne _ => touched.sagFlag_eq ne) (fun _ _ spared => by rw [spared.outbox])
    (fun t at_t through => by
      have condition : t.sag.condition = s.sag.condition := by rw [through.sag]
      show (t.sagExtensionPart c.fields.derate).outbox.sag = _
      rw [State.sagExtensionPart_eq _ at_t.onLine, through.cfg_eq, condition]
      rfl) once

/-! ### A MEMBER's counters -/

/-- At a station that was MEMBER before the mark the standing counter alone moves (R66). -/
theorem State.AtMark.quiet_member (h : s.AtMark) (member : s.member.station = .member) (was : c.was = .member)
    (once : l.Nodup) : (s.quiet c l).member =
      if .standing ∈ l then { s.member with standing := s.member.standing + 1 } else s.member :=
  h.quiet_once (A := fun _ => True) (π := State.member)
    (f := fun x => { x with standing := x.standing + 1 })
    (fun _ _ at_t through _ ne => at_t.member_quietPart (through.member_of_member member) ne)
    (fun t _ through => by
      have run : t.quietPart c .standing = t.withMember { t.member with standing := t.member.standing + 1 } :=
        if_pos ⟨was, through.member_of_member member⟩
      rw [run]
      rfl) l once fun _ _ => trivial

theorem State.AtMark.quiet_timer (h : s.AtMark) (member : s.member.station = .member) :
    (s.quiet c l).timer = s.timer :=
  h.quiet_const (A := fun _ => True) (π := State.timer) (fun t p at_t through _ => by
    by_cases silence : p = .silence
    · rw [silence]
      exact (t.quietPart_silence_spared c).rest.2.2.2.2.2.1
    by_cases joining : p = .joining
    · rw [joining, State.quietPart_joining_of_not c (by rw [through.member_of_member member]; decide)]
    · exact (at_t.touched c silence).timer_eq joining) l fun _ _ => trivial

/-! ### The blocks of a quorum loss, through the parts beside the silence counts -/

/-- What a quorum loss alone takes of the Outbox, the planner and the output at a mark (R77). -/
structure LossBlocks where
  claim : Option SlotSet
  release : Option SlotSet
  outstanding : Bool
  picks : List SlotIndex
  output : LoadOutput

/-- Those blocks of a state. -/
def State.lossBlocks (s : State) : LossBlocks :=
  ⟨s.outbox.claim, s.outbox.release, s.planner.claimOutstanding, s.planner.pickOrder, s.output⟩

theorem State.AtMark.quiet_lossBlocks (h : s.AtMark) (no : .silence ∉ l) : (s.quiet c l).lossBlocks = s.lossBlocks :=
  h.quiet_const (A := fun p => p ≠ .silence) (π := State.lossBlocks) (fun t p at_t _ ne => by
    have touched := at_t.touched c ne
    obtain ⟨claim, release, outstanding, picks⟩ := touched.claim_eq
    unfold State.lossBlocks
    rw [claim, release, outstanding, picks, touched.output_eq]) l fun _ hp same => no (same ▸ hp)

/-- The Holding List and the Demand Queue after a MEMBER's promotion (R90). -/
def promoted (x : List Holding × List Demand) : List Holding × List Demand :=
  (x.1.map Holding.promote, servedDemands ((x.1.map Holding.promote).filter Holding.isActive).length x.2)

theorem State.AtMark.quiet_promoted (h : s.AtMark) (member : s.member.station = .member) (once : l.Nodup)
    (no : .silence ∉ l) : ((s.quiet c l).holdings, (s.quiet c l).demands) =
      if .promotion ∈ l then promoted (s.holdings, s.demands) else (s.holdings, s.demands) :=
  h.quiet_once (A := fun p => p ≠ .silence) (π := fun t => (t.holdings, t.demands)) (f := promoted)
    (fun t p at_t _ ne ne' => by
      rw [(at_t.touched c ne).holdings_eq ne', (at_t.touched c ne).demands_eq ne'])
    (fun t at_t through => by
      show (t.promotionPart.holdings, t.promotionPart.demands) = _
      rw [State.promotionPart_eq (through.member_of_member member)]
      rfl) l once fun _ hp same => no (same ▸ hp)

/-! ### The records -/

/-- The DERATE records of the parts beside the silence counts (R112). -/
theorem State.AtMark.quiet_derateRecords (h : s.AtMark) (once : l.Nodup) (no : .silence ∉ l) :
    recordsOfKind 6 (s.quietRecords c l) =
      if .derate ∈ l then derateRecords s.timer.cycle s.sag.derateRemaining c.fields.derate else [] := by
  refine h.quietRecords_filter (ρ := fun t => t.sag.derateRemaining) (q := .derate)
    (E := fun n => derateRecords s.timer.cycle n c.fields.derate)
    (fun t p at_t through ne ne' => ⟨?_, State.partRecords_kind_six ne'⟩) (fun t at_t through => ?_) once no
  · rw [(at_t.touched c ne).sag_eq ne']
  · rw [← through.cycle_eq]
    exact List.filter_eq_self.2 fun n hn => by simp [kind_derateRecords hn]

/-- The records of another kind than `kind`. -/
def recordsBut (kind : Byte) (ns : List Note) : List Note := ns.filter fun n => !(n.body.kindCode == kind)

/-- A MEMBER's other records of the parts beside the silence counts: the SERVED of its promotion (R90). -/
theorem State.AtMark.quiet_servedRecords (h : s.AtMark) (member : s.member.station = .member) (once : l.Nodup)
    (no : .silence ∉ l) : recordsBut 6 (s.quietRecords c l) =
      if .promotion ∈ l then servedRecords s.timer.cycle s.promotedCount s.demands else [] := by
  refine h.quietRecords_filter (ρ := fun t => (t.promotedCount, t.demands)) (q := .promotion)
    (E := fun x => servedRecords s.timer.cycle x.1 x.2) (fun t p at_t through ne ne' => ⟨?_, ?_⟩)
    (fun t at_t through => ?_) once no
  · unfold State.promotedCount
    rw [(at_t.touched c ne).holdings_eq ne', (at_t.touched c ne).demands_eq ne']
  · cases p with
    | promotion => exact absurd rfl ne'
    | joining =>
      have none : t.partRecords c .joining = [] := if_neg fun joins => by
        rw [through.member_of_member member] at joins
        cases joins.1
      rw [none]
      rfl
    | derate => exact List.filter_eq_nil_iff.2 fun n hn => by simp [kind_derateRecords hn]
    | _ => rfl
  · have records : t.partRecords c .promotion = servedRecords t.timer.cycle t.promotedCount t.demands :=
      if_pos (through.member_of_member member)
    rw [records, through.cycle_eq]
    exact List.filter_eq_self.2 fun n hn => by simp [kind_servedRecords hn]

end Sys2Proof.Machine
end

section
/-!
PROOF. A mark at a MEMBER station: what it keeps, and what a quorum loss in its silence counts takes (R77, R90).
-/

namespace Sys2Proof.Machine

variable {s t u w : State} {p : MarkPart} {m : MarkFields} {q : StationId} {c : MarkContext} {a b : List MarkPart}

/-! ### The silence counts and the other blocks -/

theorem State.silenced_blocks (s : State) : s.silenced.holdings = s.holdings ∧ s.silenced.demands = s.demands ∧
    s.silenced.notes = s.notes ∧ s.silenced.outbox = s.outbox ∧ s.silenced.planner = s.planner ∧
    s.silenced.output = s.output := by
  obtain ⟨P, M, tables⟩ : ∃ P M, s.silenced = (s.withPeers P).withMap M := ⟨_, _, s.silenced_eq⟩
  rw [tables]
  exact ⟨rfl, rfl, rfl, rfl, rfl, rfl⟩

theorem release_queueRelease_congr {o o' : Outbox} (h : o.release = o'.release) (x : SlotSet) :
    (o.queueRelease x).release = (o'.queueRelease x).release := by
  unfold Outbox.queueRelease
  split
  · exact h
  · rw [h]
    cases o'.release <;> rfl

theorem map_slot_promote (hs : List Holding) : (hs.map Holding.promote).map Holding.slot = hs.map Holding.slot := by
  rw [List.map_map]
  refine List.map_congr_left fun h _ => ?_
  rw [Function.comp_apply, Holding.promote]
  split <;> rfl

/-! ### The quorum -/

/-- Whether a MEMBER loses its quorum at a mark does not depend on the parts before the silence counts (R56). -/
theorem State.AtMark.loses_quiet (h : s.AtMark) (own : c.dup = false) (member : s.member.station = .member)
    (positive : 0 < s.cfg.expiry) (parts : Parted a b) : (s.quiet c a).Loses ↔ s.Loses := by
  have through := h.quiet_through c a
  have station : (s.quiet c a).member.station = s.member.station := (through.member_of_member member).trans member.symm
  have peers := h.quiet_peers (c := c) parts.notBefore
  obtain ⟨silenced, -⟩ := State.silenced_congr through.id_eq through.rest.2.2.2.1 through.cycle_eq peers
    (fun q _ => h.quiet_anyLive own parts.before parts.notBefore q) positive
  have live : (s.quiet c a).liveCount = s.liveCount := State.liveCount_congr (fun _ => by rw [peers]) station
  have left : (s.quiet c a).silenced.liveCount = s.silenced.liveCount := State.liveCount_congr
    (fun _ => by rw [silenced]) (by rw [(s.quiet c a).silenced_frame.2.2.2, s.silenced_frame.2.2.2, station])
  unfold State.Loses
  rw [station, through.cfg_eq, live, left]

/-- A MEMBER loses its quorum at a mark exactly where it was quorate before and is not after (R56, R76). -/
theorem State.AtMark.loses_iff (h : s.AtMark) (own : c.dup = false) (member : s.member.station = .member)
    (positive : 0 < s.cfg.expiry) (cycle : s.timer.cycle = c.fields.cycle) (parts : Parted a b) :
    s.Loses ↔ s.quorate = true ∧ (s.quiet c (a ++ .silence :: b)).quorate = false := by
  classical
  have through := h.quiet_through c (a ++ .silence :: b)
  have peers := (h.quiet_tables own positive cycle parts).1
  have station := through.member_of_member member
  have left : (s.quiet c (a ++ .silence :: b)).liveCount = s.silenced.liveCount := State.liveCount_congr
    (fun _ => by rw [peers]) (by rw [s.silenced_frame.2.2.2, station, member])
  rw [State.quorate_iff, ← Bool.not_eq_true, State.quorate_iff, station, through.cfg_eq, left]
  simp [State.Loses, member]

/-! ### What stays, and what a quorum loss takes -/

theorem State.AtMark.lossBlocks_of_keeps (h : s.AtMark) (own : c.dup = false) (member : s.member.station = .member)
    (positive : 0 < s.cfg.expiry) (parts : Parted a b) (kept : ¬ s.Loses) :
    (s.quiet c (a ++ .silence :: b)).lossBlocks = s.lossBlocks := by
  have through := h.quiet_through c a
  have here := h.through through
  have after := here.through (State.Spared.silencePart _).through
  have silent := State.silencePart_of_keeps here.onLine (through.cfg_eq ▸ positive)
    (mt (h.loses_quiet own member positive parts).1 kept)
  rw [s.quiet_split own, after.quiet_lossBlocks parts.notBehind, silent, ← h.quiet_lossBlocks parts.notBefore]
  unfold State.lossBlocks
  obtain ⟨-, -, -, outbox, planner, output⟩ := (s.quiet c a).silenced_blocks
  rw [outbox, planner, output]

/-- What a quorum loss leaves of the blocks it takes (R77). -/
def State.lossBlocksLost (s : State) : LossBlocks :=
  ⟨none, (s.outbox.queueRelease (slotSetOf (s.holdings.map Holding.slot))).release,
    s.planner.claimOutstanding && s.outbox.claim.isNone, if s.outbox.claim.isSome then [] else s.planner.pickOrder,
    ⟨.idle, false⟩⟩

theorem State.lossBlocks_quorumLoss (s : State) : s.quorumLoss.lossBlocks = s.lossBlocksLost := by
  rw [State.quorumLoss_eq, State.quorumDropped_eq]
  rfl

theorem State.AtMark.quiet_slots (h : s.AtMark) (member : s.member.station = .member) {l : List MarkPart} (once : l.Nodup)
    (no : .silence ∉ l) : (s.quiet c l).holdings.map Holding.slot = s.holdings.map Holding.slot := by
  have same := h.quiet_promoted (c := c) member once no
  split at same
  · rw [(Prod.mk.inj same).1]
    exact map_slot_promote _
  · rw [(Prod.mk.inj same).1]

theorem State.AtMark.lossBlocks_of_loses (h : s.AtMark) (own : c.dup = false) (member : s.member.station = .member)
    (positive : 0 < s.cfg.expiry) (parts : Parted a b) (lost : s.Loses) :
    (s.quiet c (a ++ .silence :: b)).lossBlocks = s.lossBlocksLost := by
  have through := h.quiet_through c a
  have here := h.through through
  have after := here.through (State.Spared.silencePart _).through
  have loss := State.silencePart_of_loses here.onLine (through.cfg_eq ▸ positive)
    ((h.loses_quiet own member positive parts).2 lost)
  obtain ⟨claim, release, outstanding, picks, -⟩ := LossBlocks.mk.inj (h.quiet_lossBlocks (c := c) parts.notBefore)
  obtain ⟨holdings, -, -, outbox, planner, -⟩ := (s.quiet c a).silenced_blocks
  rw [s.quiet_split own, after.quiet_lossBlocks parts.notBehind, loss, State.lossBlocks_quorumLoss]
  unfold State.lossBlocksLost
  rw [outbox, planner, holdings, h.quiet_slots member parts.before parts.notBefore, release_queueRelease_congr release, claim,
    outstanding, picks]

theorem State.AtMark.promoted_of_keeps (h : s.AtMark) (own : c.dup = false) (member : s.member.station = .member)
    (positive : 0 < s.cfg.expiry) (parts : Parted a b) (kept : ¬ s.Loses) :
    ((s.quiet c (a ++ .silence :: b)).holdings, (s.quiet c (a ++ .silence :: b)).demands) =
      promoted (s.holdings, s.demands) := by
  have through := h.quiet_through c a
  have here := h.through through
  have spared := (State.Spared.silencePart (s.quiet c a)).through
  have silent := State.silencePart_of_keeps here.onLine (through.cfg_eq ▸ positive)
    (mt (h.loses_quiet own member positive parts).1 kept)
  obtain ⟨holdings, demands, -⟩ := (s.quiet c a).silenced_blocks
  rw [s.quiet_split own, (here.through spared).quiet_promoted (spared.member_of_member (through.member_of_member member))
    parts.behind parts.notBehind, silent, holdings, demands, h.quiet_promoted member parts.before parts.notBefore]
  rcases parts.once (q := .promotion) (by decide) with ⟨early, notLate⟩ | ⟨notEarly, late⟩
  · rw [if_neg notLate, if_pos early]
  · rw [if_pos late, if_neg notEarly]

/-! ### The Demand Queue -/

theorem servedDemands_clearServed {ds : List Demand} (floors : ∀ d ∈ ds, 0 < d.floor) :
    servedDemands 0 (clearServed ds) = clearServed ds := by
  cases ds with
  | nil => rfl
  | cons d ds =>
    have floor := floors d (by simp)
    have early : ¬ d.floor ≤ 0 := by omega
    simp [servedDemands, clearServed, early]

theorem clearServed_servedDemands (n : Nat) (ds : List Demand) : clearServed (servedDemands n ds) = clearServed ds := by
  cases ds <;> rfl

theorem servedRecords_clearServed {ds : List Demand} (floors : ∀ d ∈ ds, 0 < d.floor) (k : CycleNumber) :
    servedRecords k 0 (clearServed ds) = [] := by
  cases ds with
  | nil => rfl
  | cons d ds =>
    have floor := floors d (by simp)
    exact if_neg fun h => by
      have : d.floor ≤ 0 := h.2
      omega

/-- A MEMBER that loses its quorum at a mark holds nothing, and its head's served flag is clear (R77, R91). -/
theorem State.AtMark.emptied_of_loses (h : s.AtMark) (own : c.dup = false) (member : s.member.station = .member)
    (positive : 0 < s.cfg.expiry) (parts : Parted a b) (lost : s.Loses) :
    (s.quiet c (a ++ .silence :: b)).holdings = [] ∧ ((∀ d ∈ s.demands, 0 < d.floor) →
      (s.quiet c (a ++ .silence :: b)).demands = clearServed s.demands) := by
  have through := h.quiet_through c a
  have here := h.through through
  have spared := (State.Spared.silencePart (s.quiet c a)).through
  have loss := State.silencePart_of_loses here.onLine (through.cfg_eq ▸ positive)
    ((h.loses_quiet own member positive parts).2 lost)
  have left : ((s.quiet c a).silencePart).holdings = [] ∧
      ((s.quiet c a).silencePart).demands = clearServed (s.quiet c a).demands := by
    rw [loss, State.quorumLoss_eq, State.quorumDropped_eq, (s.quiet c a).silenced_blocks.2.1]
    exact ⟨rfl, rfl⟩
  have cleared : clearServed (s.quiet c a).demands = clearServed s.demands := by
    have same := h.quiet_promoted (c := c) member parts.before parts.notBefore
    split at same
    · rw [(Prod.mk.inj same).2]
      exact clearServed_servedDemands _ _
    · rw [(Prod.mk.inj same).2]
  have final := (here.through spared).quiet_promoted (c := c) (spared.member_of_member (through.member_of_member member))
    parts.behind parts.notBehind
  rw [left.1, left.2, cleared] at final
  rw [s.quiet_split own]
  split at final
  · obtain ⟨holdings, demands⟩ := Prod.mk.inj final
    exact ⟨holdings, fun floors => demands.trans (servedDemands_clearServed floors)⟩
  · obtain ⟨holdings, demands⟩ := Prod.mk.inj final
    exact ⟨holdings, fun _ => demands⟩

end Sys2Proof.Machine
end

section
/-!
PROOF. The records of a mark at a MEMBER station (R77, R90, R91, R112).
-/

namespace Sys2Proof.Machine

variable {s t u w : State} {p : MarkPart} {m : MarkFields} {q : StationId} {c : MarkContext} {a b : List MarkPart}

/-! ### All records of a run -/

/-- The records of the parts before and behind the silence counts, with `ns` of the counts between them. -/
def State.splitRecords (c : MarkContext) (a b : List MarkPart) (ns : List Note) (s : State) : List Note :=
  s.quietRecords c a ++ ns ++ ((s.quiet c a).quietPart c .silence).quietRecords c b

/-- The DERATE record of a mark is queued once, wherever its part stands (R112). -/
theorem State.AtMark.derateRecords_split (h : s.AtMark) (parts : Parted a b) {ns : List Note}
    (none : recordsOfKind 6 ns = []) : recordsOfKind 6 (s.splitRecords c a b ns) =
      derateRecords s.timer.cycle s.sag.derateRemaining c.fields.derate := by
  have through := h.quiet_through c a
  have here := h.through through
  have after := here.quietPart_through c .silence
  have sag : ((s.quiet c a).quietPart c .silence).sag = (s.quiet c a).sag :=
    ((s.quiet c a).quietPart_silence_spared c).rest.2.2.2.2.2.2.2.1
  have before := h.quiet_sag (c := c) parts.before
  unfold State.splitRecords
  rw [recordsOfKind_append, recordsOfKind_append, none, List.append_nil, h.quiet_derateRecords parts.before parts.notBefore,
    (here.through after).quiet_derateRecords parts.behind parts.notBehind]
  rcases parts.once (q := .derate) (by decide) with ⟨early, notLate⟩ | ⟨notEarly, late⟩
  · rw [if_pos early, if_neg notLate, List.append_nil]
  · rw [if_neg notEarly] at before
    rw [if_neg notEarly, if_pos late, List.nil_append, sag, before, after.cycle_eq, through.cycle_eq]

theorem recordsBut_append (k : Byte) (xs ys : List Note) : recordsBut k (xs ++ ys) = recordsBut k xs ++ recordsBut k ys :=
  List.filter_append _ _

/-- A MEMBER that keeps its quorum queues the SERVED of its promotion besides, wherever that part stands (R90). -/
theorem State.AtMark.servedRecords_of_keeps (h : s.AtMark) (own : c.dup = false) (member : s.member.station = .member)
    (positive : 0 < s.cfg.expiry) (parts : Parted a b) (kept : ¬ s.Loses) :
    (s.quiet c (a ++ .silence :: b)).notes = s.notes.after (s.splitRecords c a b []) ∧
    recordsBut 6 (s.splitRecords c a b []) = servedRecords s.timer.cycle s.promotedCount s.demands := by
  have through := h.quiet_through c a
  have here := h.through through
  have after := here.quietPart_through c .silence
  have silent : (s.quiet c a).quietPart c .silence = (s.quiet c a).silenced := by
    rw [State.quietPart_silence, own, if_neg Bool.false_ne_true]
    exact State.silencePart_of_keeps here.onLine (through.cfg_eq ▸ positive)
      (mt (h.loses_quiet own member positive parts).1 kept)
  obtain ⟨holdings, demands, notes, -⟩ := (s.quiet c a).silenced_blocks
  refine ⟨h.notes_split parts (by rw [silent, notes, NotificationQueue.after_nil]), ?_⟩
  have before := h.quiet_promoted (c := c) member parts.before parts.notBefore
  unfold State.splitRecords
  rw [recordsBut_append, recordsBut_append, h.quiet_servedRecords member parts.before parts.notBefore,
    (here.through after).quiet_servedRecords (after.member_of_member (through.member_of_member member)) parts.behind
      parts.notBehind]
  rcases parts.once (q := .promotion) (by decide) with ⟨early, notLate⟩ | ⟨notEarly, late⟩
  · rw [if_pos early, if_neg notLate]
    exact (List.append_nil _).trans (List.append_nil _)
  · rw [if_neg notEarly] at before
    obtain ⟨sameHoldings, sameDemands⟩ := Prod.mk.inj before
    rw [if_neg notEarly, if_pos late, after.cycle_eq, through.cycle_eq, silent, demands, sameDemands, State.promotedCount,
      holdings, sameHoldings]
    rfl

/-- SHORT at a quorum loss, where the served flag of the head is `flag` (R91). -/
def shortAtLoss (k : CycleNumber) (flag : Bool) : List Demand → List Note
  | d :: _ => if flag = true then [⟨k, .short d.tag 0 .quorum⟩] else []
  | [] => []

/-- What a MEMBER queues at a quorum loss with the Demand Queue `ds` (R77, R91). -/
def lossRecordsOf (k : CycleNumber) (n : Nat) (ds : List Demand) : List Note :=
  (if n = 0 then [] else [⟨k, .yielded n .quorum⟩]) ++ shortAtLoss k (ds.head?.any Demand.served) ds

theorem lossRecordsOf_servedDemands (k : CycleNumber) (n active : Nat) (ds : List Demand) :
    lossRecordsOf k n (servedDemands active ds) = (if n = 0 then [] else [⟨k, .yielded n .quorum⟩]) ++
      shortAtLoss k (ds.head?.any Demand.served || !(servedRecords k active ds).isEmpty) ds := by
  refine congrArg₂ (fun x y : List Note => x ++ y) rfl ?_
  cases ds with
  | nil => rfl
  | cons d ds =>
    cases served : d.served <;> by_cases reached : d.floor ≤ active <;>
      simp [servedDemands, servedRecords, shortAtLoss, served, reached]

theorem State.lossRecords_of (n : Nat) (s : State) : s.lossRecords n = lossRecordsOf s.timer.cycle n s.demands := by
  unfold State.lossRecords lossRecordsOf shortAtLoss
  refine congrArg₂ (fun x y : List Note => x ++ y) rfl ?_
  cases s.demands <;> rfl

/-- A MEMBER that loses its quorum queues what the loss queues, before its promotion or after it (R77, R90). -/
theorem State.AtMark.lossRecords_of_loses (h : s.AtMark) (own : c.dup = false) (member : s.member.station = .member)
    (positive : 0 < s.cfg.expiry) (parts : Parted a b) (lost : s.Loses) :
    ∃ ns, recordsOfKind 6 ns = [] ∧
    (s.quiet c (a ++ .silence :: b)).notes = s.notes.after (s.splitRecords c a b ns) ∧
    ((∀ d ∈ s.demands, 0 < d.floor) →
      recordsBut 6 (s.splitRecords c a b ns) = lossRecordsOf s.timer.cycle s.holdings.length s.demands ∨
      recordsBut 6 (s.splitRecords c a b ns) = servedRecords s.timer.cycle s.promotedCount s.demands ++
        lossRecordsOf s.timer.cycle s.holdings.length (servedDemands s.promotedCount s.demands)) := by
  have through := h.quiet_through c a
  have here := h.through through
  have after := here.quietPart_through c .silence
  have loss : (s.quiet c a).quietPart c .silence = (s.quiet c a).silenced.quorumLoss := by
    rw [State.quietPart_silence, own, if_neg Bool.false_ne_true]
    exact State.silencePart_of_loses here.onLine (through.cfg_eq ▸ positive)
      ((h.loses_quiet own member positive parts).2 lost)
  obtain ⟨holdings, demands, notes, -⟩ := (s.quiet c a).silenced_blocks
  have slots := congrArg List.length (h.quiet_slots (c := c) member parts.before parts.notBefore)
  rw [List.length_map, List.length_map] at slots
  have cycle : (s.quiet c a).silenced.timer.cycle = s.timer.cycle := by
    rw [(s.quiet c a).silenced_frame.2.2.1, through.cycle_eq]
  have queued : ((s.quiet c a).quietPart c .silence).notes = (s.quiet c a).notes.after
      (lossRecordsOf s.timer.cycle s.holdings.length (s.quiet c a).demands) := by
    rw [loss, State.quorumLoss_eq, State.lossRecords_of, holdings, demands, notes, cycle, slots]
    rfl
  have kinds := (s.quiet c a).silenced.lossRecords_kinds s.holdings.length
  rw [State.lossRecords_of, cycle, demands] at kinds
  refine ⟨_, List.filter_eq_nil_iff.2 fun n hn => by simpa using (kinds n hn).2, h.notes_split parts queued,
    fun floors => ?_⟩
  have all : recordsBut 6 (lossRecordsOf s.timer.cycle s.holdings.length (s.quiet c a).demands) =
      lossRecordsOf s.timer.cycle s.holdings.length (s.quiet c a).demands :=
    List.filter_eq_self.2 fun n hn => by simpa using (kinds n hn).2
  have before := h.quiet_promoted (c := c) member parts.before parts.notBefore
  unfold State.splitRecords
  rw [recordsBut_append, recordsBut_append, all, h.quiet_servedRecords member parts.before parts.notBefore,
    (here.through after).quiet_servedRecords (after.member_of_member (through.member_of_member member)) parts.behind
      parts.notBehind]
  rcases parts.once (q := .promotion) (by decide) with ⟨early, notLate⟩ | ⟨notEarly, late⟩
  · rw [if_pos early] at before
    rw [if_pos early, if_neg notLate, List.append_nil, (Prod.mk.inj before).2]
    exact .inr rfl
  · rw [if_neg notEarly] at before
    obtain ⟨-, sameDemands⟩ := Prod.mk.inj before
    have none : servedRecords ((s.quiet c a).quietPart c .silence).timer.cycle
        ((s.quiet c a).quietPart c .silence).promotedCount ((s.quiet c a).quietPart c .silence).demands = [] := by
      have empty : ((s.quiet c a).quietPart c .silence).promotedCount = 0 ∧
          ((s.quiet c a).quietPart c .silence).demands = clearServed s.demands := by
        rw [loss, State.quorumLoss_eq, State.quorumDropped_eq, demands, sameDemands]
        exact ⟨rfl, rfl⟩
      rw [empty.1, empty.2]
      exact servedRecords_clearServed floors _
    rw [if_neg notEarly, if_pos late, List.nil_append, none, List.append_nil, sameDemands]
    exact .inl rfl

/-! ### The end of the cycle in progress -/

theorem State.DemandLaw.floors (law : s.DemandLaw) : ∀ d ∈ s.demands, 0 < d.floor := fun d hd => by
  have valid := law.2.2 d hd
  simp only [Demand.valid, Bool.and_eq_true, decide_eq_true_eq] at valid
  exact valid.2.1

theorem floors_truncate (floors : ∀ d ∈ s.demands, 0 < d.floor) : ∀ d ∈ s.truncate.demands, 0 < d.floor := by
  have cleared {ds : List Demand} (h : ∀ d ∈ ds, 0 < d.floor) : ∀ d ∈ clearServed ds, 0 < d.floor := by
    cases ds with
    | nil => simp [clearServed]
    | cons d ds => simpa [clearServed] using h
  have ends : ∀ d ∈ s.cycleEnd.demands, 0 < d.floor := by
    rw [State.cycleEnd_eq]
    cases hd : s.demands with
    | nil => simp [hd]
    | cons d ds =>
      rw [hd] at floors
      dsimp only
      split
      · split
        · have tail : ∀ e ∈ clearServed ds, 0 < e.floor := cleared fun e he => floors e (by simp [he])
          simpa [State.headChange] using tail
        · simp only [State.demands_withDemands, List.forall_mem_cons] at floors ⊢
          exact floors
      · simpa [hd] using floors
  unfold State.truncate
  split
  · exact ends
  · exact floors

/-- Settles O26: the promotion is taken once, and a quorum loss before it or after it. -/
theorem markPromotesPendingHoldings : Obligations.MarkPromotesPendingHoldings := by
  intro s u p m order completes stays member v promoted active served derate yielded short flagged
  have on : s.onLine = true := State.onLine_of_member member
  have at_w := completes.atMark on
  have cfg := completes.cfg_beginMark
  obtain ⟨-, setup, -, peers, sameMember, sag⟩ := completes.beginMark
  obtain ⟨-, -, -, -, -, -, -, -, timer, holdings, demands, notes⟩ := u.beginMark_frame m
  have isMember : (u.beginMark m).member.station = .member := by rw [sameMember, member]
  have positive : 0 < (u.beginMark m).cfg.expiry := by
    have := stays.2 member
    rw [cfg]
    omega
  have cycle : (u.beginMark m).timer.cycle = m.cycle := by rw [timer]
  have quorate : (u.beginMark m).quorate = s.quorate :=
    State.quorate_congr setup (fun _ => by rw [peers]) (by rw [sameMember])
  have activeIs : ((v.holdings.map Holding.promote).filter Holding.isActive).length = active :=
    congrArg List.length (List.filter_congr fun h _ => beq_eq_decide ..)
  have count : (u.beginMark m).promotedCount = active := by
    unfold State.promotedCount
    rw [holdings]
    exact activeIs
  have sameSag : (u.beginMark m).sag.derateRemaining = v.sag.derateRemaining := by
    rw [sag]
    obtain ⟨-, -, -, -, -, -, -, -, -, sagKept, -⟩ := (State.CycleKept.truncate u).rest
    obtain ⟨-, -, -, -, -, -, -, -, -, -, -, sagSame, -⟩ := completes.frame
    rw [← sagSame, ← sagKept]
  obtain ⟨a, b, split, parts⟩ := markOrder_parted order
  have loses := at_w.loses_iff (c := markContext m false u) rfl isMember positive cycle parts
  rw [quorate, ← split] at loses
  have perm {ns : List Note} (none : recordsOfKind 6 ns = []) {rest : List Note}
      (hr : recordsBut 6 ((u.beginMark m).splitRecords (markContext m false u) a b ns) = rest) :
      ((u.beginMark m).splitRecords (markContext m false u) a b ns).Perm (rest ++ derate) := by
    have six := at_w.derateRecords_split (c := markContext m false u) parts none
    rw [cycle, sameSag] at six
    have both := List.filter_append_perm (fun n : Note => n.body.kindCode == 6)
      ((u.beginMark m).splitRecords (markContext m false u) a b ns)
    exact (both.symm.trans List.perm_append_comm).trans (by rw [← hr]; exact .append_left _ (.of_eq six))
  by_cases lost : (u.beginMark m).Loses
  · obtain ⟨was, isNot⟩ := loses.1 lost
    obtain ⟨ns, none, queued, rest⟩ := at_w.lossRecords_of_loses (c := markContext m false u) rfl isMember positive parts lost
    have emptied := (at_w.emptied_of_loses (c := markContext m false u) rfl isMember positive parts lost).1
    rw [← split, notes] at queued
    rw [← split] at emptied
    rw [demands, cycle, holdings, count] at rest
    refine ⟨_, _, completes.stays_run stays on order, queued, fun keeps => ?_, fun _ _ => ⟨emptied, fun law => ?_⟩⟩
    · rw [was, isNot] at keeps
      rcases keeps with h | h <;> cases h
    · have floors : ∀ d ∈ v.demands, 0 < d.floor := floors_truncate (by
        obtain ⟨-, -, -, -, -, -, -, -, sameDemands, -⟩ := completes.frame
        rw [sameDemands]
        exact law.floors)
      refine ⟨_, perm none rfl, List.filter_sublist, ?_⟩
      have yields : (if v.holdings.length = 0 then [] else [⟨m.cycle, .yielded v.holdings.length .quorum⟩]) = yielded :=
        if_congr List.length_eq_zero_iff rfl rfl
      have shorts (flag : Bool) : shortAtLoss m.cycle flag v.demands = short flag := by
        show _ = (match u.truncate.demands with
          | d :: _ => _
          | [] => _)
        unfold shortAtLoss
        cases u.truncate.demands <;> rfl
      refine (rest floors).imp (fun h => h.trans ?_) fun h => h.trans ?_
      · exact congrArg₂ (· ++ ·) yields (shorts _)
      · rw [lossRecordsOf_servedDemands, List.append_assoc]
        exact congrArg (_ ++ ·) (congrArg₂ (· ++ ·) yields (shorts _))
  · have keeps := at_w.promoted_of_keeps (c := markContext m false u) rfl isMember positive parts lost
    obtain ⟨queued, rest⟩ := at_w.servedRecords_of_keeps (c := markContext m false u) rfl isMember positive parts lost
    rw [← split, holdings, demands] at keeps
    rw [← split, notes] at queued
    rw [cycle, count, demands] at rest
    obtain ⟨sameHoldings, sameDemands⟩ := Prod.mk.inj keeps
    refine ⟨_, _, completes.stays_run stays on order, queued, fun _ => ⟨sameHoldings, perm rfl rest, ?_, ?_⟩,
      fun was isNot => absurd (loses.2 ⟨was, isNot⟩) lost⟩
    · intro d ds head
      have spelled : servedDemands ((v.holdings.map Holding.promote).filter Holding.isActive).length v.demands =
          { d with served := d.served || decide (d.floor ≤ active) } :: ds := by
        rw [activeIs, head]
        rfl
      exact sameDemands.trans spelled
    · intro none
      have spelled : servedDemands ((v.holdings.map Holding.promote).filter Holding.isActive).length v.demands = [] := by
        rw [none]
        rfl
      exact sameDemands.trans spelled

end Sys2Proof.Machine
end

section
/-!
PROOF. A mark at a station that holds nothing: the law of holdings, of claims and of the served flag in JOINING.
-/

namespace Sys2Proof.Machine

variable {s t u w : State} {p : MarkPart} {m : MarkFields} {q : StationId} {c : MarkContext} {a b : List MarkPart}

/-- A station with nothing that a quorum loss could take (R68, R72, R88, R98). -/
structure State.Bare (s : State) : Prop where
  holdings : s.holdings = []
  claim : s.outbox.claim = none
  output : s.output = ⟨.idle, false⟩
  unserved : clearServed s.demands = s.demands
  floors : ∀ d ∈ s.demands, 0 < d.floor
  own : ∀ k, listsLive (s.map.get k) s.id = false

theorem removeLive_of_not_lists {q : StationId} {e : SlotEntry} (h : listsLive e q = false) : removeLive q e = e := by
  refine List.filter_eq_self.2 fun r hr => ?_
  have none := List.any_eq_false.1 h r hr
  simpa [imp_iff_not_or] using none

/-- A quorum loss takes nothing of a station that holds nothing (R77). -/
theorem State.Bare.quorumLoss_eq (h : s.Bare) : s.quorumLoss = s := by
  have map : s.map.removeLiveOf s.id = s.map := by
    ext k
    rw [SlotMap.get_removeLiveOf, removeLive_of_not_lists (h.own k)]
  have records : s.lossRecords s.holdings.length = [] := by
    rw [State.lossRecords_of, lossRecordsOf, h.holdings, ← h.unserved]
    cases s.demands <;> rfl
  have release : s.outbox.queueRelease (slotSetOf (s.holdings.map Holding.slot)) = s.outbox := by
    rw [h.holdings]
    exact if_pos rfl
  rw [State.quorumLoss_eq, State.quorumDropped_eq, records, NotificationQueue.after_nil, map, release, h.unserved, h.claim]
  have whole {hs : List Holding} {o : Outbox} {out : LoadOutput} {pl : ClaimPlanner} (holdings : hs = s.holdings)
      (outbox : o = s.outbox) (output : out = s.output) (planner : pl = s.planner) :
      ((((((s.withMap s.map).withHoldings hs).withOutbox o).withOutput out).withPlanner pl).withNotes
        s.notes).withDemands s.demands = s := by
    subst holdings outbox output planner
    simp only [State.withMap, State.withHoldings, State.withOutbox, State.withOutput, State.withPlanner, State.withNotes,
      State.withDemands]
  exact whole h.holdings.symm (by rw [← h.claim]) h.output.symm (by simp)

theorem State.Bare.afterLive_eq (h : s.Bare) (n : Nat) : s.afterLive n = s := by
  unfold State.afterLive
  split
  · exact h.quorumLoss_eq
  · rfl

theorem State.Bare.tables (h : s.Bare) (P : PeerTable) {M : SlotMap}
    (own : ∀ k, listsLive (M.get k) s.id = listsLive (s.map.get k) s.id) : ((s.withPeers P).withMap M).Bare :=
  { h with own := fun k => (own k).trans (h.own k) }

/-- At a station that holds nothing the silence counts write the tables alone (R50, R51). -/
theorem State.Bare.silencePart (h : s.Bare) : ∃ P M, s.silencePart = (s.withPeers P).withMap M ∧ s.silencePart.Bare := by
  have expire (p : StationId) {y : State} (hy : y.Bare) :
      ∃ P M, y.expirePeer p = (y.withPeers P).withMap M ∧ (y.expirePeer p).Bare := by
    unfold State.expirePeer
    dsimp only
    split
    · next due =>
      have left := hy.tables (y.peers.set p { y.peers.get p with live := false, silence := 0 })
        (M := y.map.orphan p y.timer.cycle y.cfg.expiry) fun k => by
          rw [SlotMap.get_orphan, listsLive_orphanRecords_other _ _ _ due.2.1]
      exact ⟨_, _, left.afterLive_eq _, (left.afterLive_eq _).symm ▸ left⟩
    · exact ⟨y.peers, y.map, rfl, hy⟩
  have orphan (p : StationId) {y : State} (hy : y.Bare) :
      ∃ P M, y.orphanAbsent p = (y.withPeers P).withMap M ∧ (y.orphanAbsent p).Bare := by
    unfold State.orphanAbsent
    dsimp only
    split
    · next due =>
      exact ⟨_, _, rfl, hy.tables _ fun k => by rw [SlotMap.get_orphan, listsLive_orphanRecords_other _ _ _ due.2.1]⟩
    · exact ⟨y.peers, y.map, rfl, hy⟩
  have fold (ps : List StationId) {y : State} (hy : y.Bare) :
      ∃ P M, ps.foldl (fun s p => (s.expirePeer p).orphanAbsent p) y = (y.withPeers P).withMap M ∧
        (ps.foldl (fun s p => (s.expirePeer p).orphanAbsent p) y).Bare := by
    induction ps generalizing y with
    | nil => exact ⟨y.peers, y.map, rfl, hy⟩
    | cons p ps ih =>
      obtain ⟨P₁, M₁, first, bare₁⟩ := expire p hy
      obtain ⟨P₂, M₂, second, bare₂⟩ := orphan p bare₁
      obtain ⟨P, M, rest, bare⟩ := ih bare₂
      exact ⟨P, M, rest.trans (by rw [second, first]; rfl), bare⟩
  unfold State.silencePart
  split
  · obtain ⟨P, M, run, bare⟩ := fold allStations (y := s.raiseSilence) (h.tables s.raiseSilence.peers fun _ => rfl)
    exact ⟨P, M, run.trans rfl, bare⟩
  · exact ⟨s.peers, s.map, rfl, h⟩

/-- What a mark leaves at a station that holds nothing. -/
structure State.StillBare (s t : State) : Prop where
  bare : t.Bare
  lossBlocks : t.lossBlocks = s.lossBlocks
  demands : t.demands = s.demands

theorem State.Bare.promoted_eq (h : s.Bare) : promoted (s.holdings, s.demands) = (s.holdings, s.demands) := by
  unfold promoted
  have demands : servedDemands 0 s.demands = s.demands := by
    rw [← h.unserved]
    exact servedDemands_clearServed h.floors
  rw [h.holdings]
  exact Prod.ext rfl demands

theorem State.Bare.stillBare (h : s.Bare) (hid : t.id = s.id) (lossBlocks : t.lossBlocks = s.lossBlocks)
    (holdings : t.holdings = s.holdings) (demands : t.demands = s.demands)
    (own : ∀ k, listsLive (t.map.get k) s.id = listsLive (s.map.get k) s.id) : s.StillBare t where
  bare :=
    { holdings := holdings.trans h.holdings
      claim := (congrArg LossBlocks.claim lossBlocks).trans h.claim
      output := (congrArg LossBlocks.output lossBlocks).trans h.output
      unserved := by rw [demands, h.unserved]
      floors := by
        rw [demands]
        exact h.floors
      own := fun k => by rw [hid, own k, h.own k] }
  lossBlocks := lossBlocks
  demands := demands

theorem State.Bare.quietPart (h : s.Bare) (at_s : s.AtMark) (c : MarkContext) (p : MarkPart) :
    s.StillBare (s.quietPart c p) := by
  by_cases silence : p = .silence
  · subst silence
    rw [State.quietPart_silence]
    split
    · exact ⟨h, rfl, rfl⟩
    · obtain ⟨P, M, run, bare⟩ := h.silencePart
      exact ⟨bare, by rw [run]; rfl, by rw [run]; rfl⟩
  · have one : (s.quiet c [p]).lossBlocks = s.lossBlocks := at_s.quiet_lossBlocks (by simpa using Ne.symm silence)
    have touched := at_s.touched c silence
    have pair : ((s.quietPart c p).holdings, (s.quietPart c p).demands) = (s.holdings, s.demands) := by
      by_cases promotion : p = .promotion
      · subst promotion
        show (s.promotionPart.holdings, s.promotionPart.demands) = _
        by_cases member : s.member.station = .member
        · rw [State.promotionPart_eq member]
          exact h.promoted_eq
        · rw [State.promotionPart, if_neg member]
      · rw [touched.holdings_eq promotion, touched.demands_eq promotion]
    obtain ⟨holdings, demands⟩ := Prod.mk.inj pair
    refine h.stillBare (at_s.quietPart_through c p).id_eq one holdings demands fun k => ?_
    by_cases orphans : p = .orphans
    · subst orphans
      show listsLive ((if c.dup = true then s else s.orphanPart c.fields.cycle).map.get k) s.id = _
      split
      · rfl
      · rw [State.orphanPart, if_pos at_s.onLine, State.map_withMap, SlotMap.get_countdown, listsLive_countOrphans]
    · rw [touched.map_eq orphans]

theorem State.Bare.quiet (h : s.Bare) (at_s : s.AtMark) (c : MarkContext) (l : List MarkPart) :
    s.StillBare (s.quiet c l) := by
  induction l generalizing s with
  | nil => exact ⟨h, rfl, rfl⟩
  | cons p l ih =>
    have first := h.quietPart at_s c p
    have rest := ih first.bare (at_s.through (at_s.quietPart_through c p))
    exact ⟨rest.bare, rest.lossBlocks.trans first.lossBlocks, rest.demands.trans first.demands⟩

/-- The state before the parts of a mark at a JOINING station under the laws (R68, R72, R88, R98). -/
theorem State.Completes.bare (h : s.Completes q (.mark m) u) (notMember : s.member.station ≠ .member)
    (holdings : s.HoldingLaw) (demands : s.DemandLaw) (served : s.ServedLaw) (claims : s.ClaimLaw) :
    (u.beginMark m).Bare := by
  have notMember' : u.member.station ≠ .member := by rwa [h.member_eq]
  have holdsNone := holdings.2.2 notMember
  obtain ⟨-, -, hid, -, -, map, -, -, sameDemands, -, sameHoldings, -⟩ := h.frame
  have claim : u.outbox.claim = s.outbox.claim := by
    obtain ⟨-, rfl⟩ | ⟨-, -, rfl⟩ := h <;> rfl
  have floors := demands.floors
  have unserved : clearServed s.demands = s.demands := by
    cases hd : s.demands with
    | nil => rfl
    | cons d ds =>
      have clear := served notMember d (by rw [hd]; rfl)
      unfold clearServed
      rw [← clear]
  have noClaim : s.outbox.claim = none := by
    cases waiting : s.outbox.claim with
    | none => rfl
    | some x => exact absurd (claims.1 (by rw [waiting]; rfl)).1 notMember
  have own (k : SlotIndex) : listsLive (s.map.get k) s.id = false := by
    cases lists : listsLive (s.map.get k) s.id with
    | false => rfl
    | true =>
      have held := (holdings.2.1 k).2 lists
      rw [holdsNone] at held
      cases held
  rw [State.beginMark_eq, State.truncate_of_not_member notMember', if_neg notMember']
  exact
    { holdings := sameHoldings.trans holdsNone
      claim := claim.trans noClaim
      output := rfl
      unserved := sameDemands.symm ▸ unserved
      floors := sameDemands.symm ▸ floors
      own := fun k => by
        show listsLive (u.map.get k) u.id = false
        rw [map, hid, own k] }

end Sys2Proof.Machine
end

section
/-!
PROOF. The alignment and the counts of a mark (R30, R31, R102, R108, R112, R126).
-/

namespace Sys2Proof.Machine

variable {s t u w : State} {p : MarkPart} {m : MarkFields} {q : StationId} {c : MarkContext} {a b : List MarkPart}

/-! ### The own live records -/

/-- The live records of one station (R1). -/
def ownRecords (q : StationId) (e : SlotEntry) : SlotEntry := e.filter fun r => r.station == q && r.orphan.isNone

theorem ownRecords_of_not_lists {e : SlotEntry} (h : listsLive e q = false) : ownRecords q e = [] :=
  List.filter_eq_nil_iff.2 fun r hr => List.any_eq_false.1 h r hr

theorem ownRecords_removeLive (q : StationId) (e : SlotEntry) : ownRecords q (removeLive q e) = [] := by
  refine List.filter_eq_nil_iff.2 fun r hr => ?_
  have kept := (List.mem_filter.1 hr).2
  simp only [Bool.not_eq_true'] at kept
  exact ne_true_of_eq_false kept

/-- A mark leaves the live records of a station that does not expire at it (R15, R16). -/
theorem ownRecords_marked {k : CycleNumber} {n : Nat} {due : StationId → Bool} (stays : due q = false) (e : SlotEntry) :
    ownRecords q (e.filterMap (markedRecord k n due)) = ownRecords q e := by
  unfold ownRecords
  rw [List.filter_filterMap, ← List.filterMap_eq_filter]
  refine List.filterMap_congr fun r _ => ?_
  cases orphan : r.orphan with
  | none =>
    by_cases mine : r.station = q
    · have still : markedRecord k n due r = some r := by simp [markedRecord, orphan, mine, stays]
      simp [still, mine, orphan, Option.guard]
    · cases expires : due r.station <;> simp [markedRecord, orphan, expires, mine, Option.guard, Option.filter]
  | some o =>
    have dead (r' : HolderRecord) (h : markedRecord k n due r = some r') : r'.orphan.isNone = false := by
      unfold markedRecord at h
      rw [orphan] at h
      grind
    cases left : markedRecord k n due r with
    | none => simp [orphan, Option.guard]
    | some r' => simp [orphan, dead r' left, Option.guard, Option.filter]

theorem State.dueAtMark_own (s : State) : s.dueAtMark s.id = false := by simp [State.dueAtMark]

/-! ### The founding timer and the output -/

theorem State.member_of_onLine (on : s.onLine = true) (notJoining : s.member.station ≠ .joining) :
    s.member.station = .member := by
  unfold State.onLine at on
  cases station : s.member.station <;> simp_all

theorem founding_joinedMember (expiry : Nat) (al : Bool) (x : Membership) : (joinedMember expiry al (x, 0)).2 = 0 := by
  unfold joinedMember
  dsimp only
  split_ifs <;> rfl

/-- The Cycle Timer after a mark (R30, R33). -/
theorem State.Completes.timer_after (h : s.Completes q (.mark m) u) (on : s.onLine = true) (order : List MarkPart) :
    ((u.beginMark m).quiet (markContext m false u) (markOrder order)).timer =
      ⟨.inSlot 0 0, m.cycle, if s.member.station = .joining then 0 else s.timer.founding, false⟩ := by
  have at_w := h.atMark on
  obtain ⟨-, -, -, -, member, -⟩ := h.beginMark
  obtain ⟨-, -, -, -, -, -, -, -, timer, -⟩ := u.beginMark_frame m
  obtain ⟨-, -, -, -, sameTimer, -⟩ := h.frame
  rw [h.member_eq, sameTimer] at timer
  by_cases joining : s.member.station = .joining
  · have was : (markContext m false u).was ≠ .member := by
      show u.member.station ≠ .member
      rw [h.member_eq, joining]
      decide
    have founding := congrArg Prod.snd (at_w.quiet_member_of_joining was (nodup_markOrder order))
    rw [if_pos (mem_markOrder order .joining), timer, if_pos joining, founding_joinedMember] at founding
    rw [(at_w.quiet_through _ _).timer, timer, if_pos joining]
    exact congrArg (fun n => CycleTimer.mk _ _ n _) founding
  · have isMember : (u.beginMark m).member.station = .member := by
      rw [member]
      exact State.member_of_onLine on joining
    rw [at_w.quiet_timer isMember, timer]

/-- The output as slot 0 begins (R126). -/
theorem State.output_beginMark (m : MarkFields) (u : State) : (u.beginMark m).output =
    if u.member.station = .member then ⟨.lead, false⟩ else ⟨.idle, false⟩ := by
  rw [State.beginMark_eq]
  rfl

/-! ### What the silence counts reach, whichever order -/

/-- The blocks of a quorum loss after a mark, and the own live records (R77). -/
structure State.LossKept (s : State) (w t : State) : Prop where
  blocks : t.lossBlocks = w.lossBlocks
  own : ∀ k, ownRecords s.id (t.map.get k) = ownRecords s.id (s.map.get k)

structure State.LossTaken (s : State) (w t : State) : Prop where
  blocks : t.lossBlocks = w.lossBlocksLost
  own : ∀ k, ownRecords s.id (t.map.get k) = []

/-- A MEMBER at a mark keeps the blocks of a quorum loss, or loses them with its quorum (R56, R77). -/
theorem State.Completes.loss_of_member (h : s.Completes q (.mark m) u) (stays : s.StaysOn m)
    (member : s.member.station = .member) (order : List MarkPart) :
    let t := (u.beginMark m).quiet (markContext m false u) (markOrder order)
    (s.quorate = false ∨ t.quorate = true → s.LossKept (u.beginMark m) t) ∧
    (s.quorate = true → t.quorate = false → s.LossTaken (u.beginMark m) t) := by
  have on : s.onLine = true := State.onLine_of_member member
  have at_w := h.atMark on
  have cfg := h.cfg_beginMark
  obtain ⟨hid, setup, map, peers, sameMember, -⟩ := h.beginMark
  have isMember : (u.beginMark m).member.station = .member := by rw [sameMember, member]
  have positive : 0 < (u.beginMark m).cfg.expiry := by
    have := stays.2 member
    rw [cfg]
    omega
  have cycle : (u.beginMark m).timer.cycle = m.cycle := by
    rw [State.beginMark_eq]
    rfl
  have quorate : (u.beginMark m).quorate = s.quorate :=
    State.quorate_congr setup (fun _ => by rw [peers]) (by rw [sameMember])
  obtain ⟨a, b, split, parts⟩ := markOrder_parted order
  have loses := at_w.loses_iff (c := markContext m false u) rfl isMember positive cycle parts
  classical
  have tables := (at_w.quiet_tables (c := markContext m false u) rfl positive cycle parts).2
  have same := at_w.loses_quiet (c := markContext m false u) rfl isMember positive parts
  have due := (u.beginMark m).dueAtMark_own
  rw [hid] at due
  rw [quorate] at loses
  rw [split]
  intro t
  refine ⟨fun keeps => ?_, fun was isNot => ?_⟩
  · have kept : ¬ (u.beginMark m).Loses := fun lost => by
      obtain ⟨was, isNot⟩ := loses.1 lost
      rcases keeps with no | yes
      · exact Bool.false_ne_true (no.symm.trans was)
      · exact Bool.false_ne_true (isNot.symm.trans yes)
    refine ⟨at_w.lossBlocks_of_keeps rfl isMember positive parts kept, fun k => ?_⟩
    rw [tables k, if_neg (mt same.1 kept), ownRecords_marked due, map]
  · have lost := loses.2 ⟨was, isNot⟩
    refine ⟨at_w.lossBlocks_of_loses rfl isMember positive parts lost, fun k => ?_⟩
    rw [tables k, if_pos (same.2 lost), hid, ownRecords_removeLive]

end Sys2Proof.Machine
end

section
/-!
PROOF. What a mark at which the station stays on leaves of every block (R30, R31, R41, R66, R102, R108, R112).
-/

namespace Sys2Proof.Machine

variable {s t u w : State} {p : MarkPart} {m : MarkFields} {q : StationId}

/-- The state a MARK leaves where no part of it ends membership. -/
abbrev State.afterMark (m : MarkFields) (order : List MarkPart) (u : State) : State :=
  (u.beginMark m).quiet (markContext m false u) (markOrder order)

theorem State.outbox_beginMark (m : MarkFields) (u : State) : (u.beginMark m).outbox =
    { u.outbox with
      mark := none
      inFlight := if u.outbox.ownMark then none else u.outbox.inFlight
      claim := u.truncate.outbox.claim
      release := u.truncate.outbox.release } := by
  have blocks : (u.beginMark m).outbox = { u.truncate.outbox with
      mark := none, inFlight := if u.outbox.ownMark then none else u.outbox.inFlight } := by
    rw [State.beginMark_eq]
    rfl
  rw [blocks, (State.CycleKept.truncate u).outbox]

theorem State.planner_beginMark (m : MarkFields) (u : State) : (u.beginMark m).planner =
    { u.planner with
      claimOutstanding := u.truncate.planner.claimOutstanding, pickOrder := u.truncate.planner.pickOrder } := by
  have blocks : (u.beginMark m).planner = u.truncate.planner := by
    rw [State.beginMark_eq]
    rfl
  rw [blocks, (State.CycleKept.truncate u).planner]

/-- The blocks of a quorum loss before the parts of a mark are those that the end of the cycle has left (R31). -/
theorem State.lossBlocks_beginMark (m : MarkFields) (u : State) : (u.beginMark m).lossBlocks =
    { u.truncate.lossBlocks with
      output := if u.member.station = .member then ⟨.lead, false⟩ else ⟨.idle, false⟩ } := by
  unfold State.lossBlocks
  rw [State.outbox_beginMark, State.planner_beginMark, State.output_beginMark]

theorem State.Completes.flags (h : s.Completes q (.mark m) u) : u.outbox.presence = s.outbox.presence ∧
    u.outbox.sag = s.outbox.sag ∧ u.planner = s.planner ∧ u.sag = s.sag := by
  obtain ⟨-, -, -, -, -, -, -, -, -, planner, -, sag, -⟩ := h.frame
  refine ⟨?_, ?_, planner, sag⟩ <;> obtain ⟨-, rfl⟩ | ⟨-, -, rfl⟩ := h <;> rfl

/-- The Outbox after a mark (R30, R41, R108). -/
theorem State.Completes.outbox_after (h : s.Completes q (.mark m) u) (on : s.onLine = true) (order : List MarkPart) :
    (u.afterMark m order).outbox = { u.outbox with
      mark := none
      inFlight := if u.outbox.ownMark then none else u.outbox.inFlight
      claim := (u.afterMark m order).outbox.claim
      release := (u.afterMark m order).outbox.release
      presence := s.outbox.presence || decide (m.cycle.toNat % s.cfg.period = s.id.val % s.cfg.period)
      sag := s.outbox.sag || (decide (s.cfg.sagMode = .shared ∧ m.derate ≤ 1) && s.sag.condition) } := by
  have at_w := h.atMark on
  obtain ⟨hid, -, -, -, -, sag⟩ := h.beginMark
  obtain ⟨presence, sagFlag, -, -⟩ := h.flags
  have presence' := at_w.quiet_presence (c := markContext m false u) rfl (nodup_markOrder order)
  have sagFlag' := at_w.quiet_sagFlag (c := markContext m false u) (nodup_markOrder order)
  rw [if_pos (mem_markOrder _ _), h.cfg_beginMark, hid, State.outbox_beginMark, presence] at presence'
  rw [if_pos (mem_markOrder _ _), h.cfg_beginMark, sag, State.outbox_beginMark, sagFlag] at sagFlag'
  rw [(at_w.quiet_through (markContext m false u) (markOrder order)).outbox, presence', sagFlag', State.outbox_beginMark]

/-- The Claim Planner after a mark (R102). -/
theorem State.Completes.planner_after (h : s.Completes q (.mark m) u) (on : s.onLine = true) (order : List MarkPart) :
    (u.afterMark m order).planner = { u.planner with
      claimOutstanding := (u.afterMark m order).planner.claimOutstanding
      pickOrder := (u.afterMark m order).planner.pickOrder
      localHold := s.planner.localHold - 1
      yieldHold := s.planner.yieldHold && !decide (s.planner.localHold - 1 = 0 ∧ m.derate = 0) } := by
  have at_w := h.atMark on
  obtain ⟨-, -, planner, -⟩ := h.flags
  have holds := at_w.quiet_localHold (c := markContext m false u) (nodup_markOrder order)
  rw [if_pos (mem_markOrder _ _), State.planner_beginMark, planner] at holds
  obtain ⟨localHold, yieldHold⟩ := Prod.mk.inj holds
  have announced := (at_w.quiet_through (markContext m false u) (markOrder order)).planner
  rw [State.planner_beginMark] at announced
  have eta (x : ClaimPlanner) : x = ⟨x.claimOutstanding, x.pickOrder, x.yieldHold, x.localHold, x.announcedPriority⟩ := rfl
  rw [eta (u.afterMark m order).planner, localHold, yieldHold, announced]

/-- The Sag Monitor after a mark (R112). -/
theorem State.Completes.sag_after (h : s.Completes q (.mark m) u) (on : s.onLine = true) (order : List MarkPart) :
    (u.afterMark m order).sag = derateTaken m.derate u.sag := by
  have at_w := h.atMark on
  obtain ⟨-, -, -, -, -, sag⟩ := h.beginMark
  obtain ⟨-, -, -, sag'⟩ := h.flags
  have taken := at_w.quiet_sag (c := markContext m false u) (nodup_markOrder order)
  rw [if_pos (mem_markOrder _ _), sag, ← sag'] at taken
  exact taken

/-- The DERATE record among those of a mark (R112). -/
theorem State.Completes.derateRecords_after (h : s.Completes q (.mark m) u) (on : s.onLine = true)
    (order : List MarkPart) : ∃ queued, (u.afterMark m order).notes = u.truncate.notes.after queued ∧
      recordsOfKind 6 queued = derateRecords m.cycle u.sag.derateRemaining m.derate := by
  have at_w := h.atMark on
  obtain ⟨-, -, -, -, -, sag⟩ := h.beginMark
  obtain ⟨-, -, -, sag'⟩ := h.flags
  obtain ⟨-, -, -, -, -, -, -, -, timer, -, -, notes⟩ := u.beginMark_frame m
  obtain ⟨a, b, split, parts⟩ := markOrder_parted order
  obtain ⟨ns, silence, kinds⟩ := (((u.beginMark m).quiet (markContext m false u) a).quietPart_silence_spared
    (markContext m false u)).notes
  have none : recordsOfKind 6 ns = [] := List.filter_eq_nil_iff.2 fun n hn => by simpa using (kinds n hn).2
  have queued := at_w.notes_split parts silence
  have derate := at_w.derateRecords_split (c := markContext m false u) parts none
  rw [← split, notes] at queued
  rw [timer, sag, ← sag'] at derate
  exact ⟨_, queued, derate⟩

/-- The Line Controller and the blocks that no mark touches (R30). -/
theorem State.Completes.line_after (h : s.Completes q (.mark m) u) (on : s.onLine = true) (order : List MarkPart) :
    (u.afterMark m order).line =
      (if u.outbox.ownMark then { u.line with attempts := 0, clashes := 0, broken := none } else u.line) ∧
    (u.afterMark m order).port = s.port ∧ (u.afterMark m order).snap = s.snap := by
  obtain ⟨-, -, -, -, line, port, snap⟩ := ((h.atMark on).quiet_through (markContext m false u) (markOrder order)).rest
  obtain ⟨-, -, -, -, -, -, port', snap', -⟩ := u.beginMark_frame m
  obtain ⟨-, -, -, -, -, -, -, -, -, -, -, -, -, port'', -, snap''⟩ := h.frame
  refine ⟨?_, port.trans (port'.trans port''), snap.trans (snap'.trans snap'')⟩
  rw [line, State.beginMark_eq]
  rfl

/-- The state that a MARK leaves of a station off the line (R74). -/
theorem State.beginMark_of_off (off : u.onLine = false) (m : MarkFields) : u.beginMark m =
    (((u.withTimer ⟨.inSlot 0 0, m.cycle, u.timer.founding, false⟩).withOutbox { u.outbox with
      mark := none, inFlight := if u.outbox.ownMark then none else u.outbox.inFlight }).withOutput ⟨.idle, false⟩).withLine
        (if u.outbox.ownMark then { u.line with attempts := 0, clashes := 0, broken := none } else u.line) := by
  obtain ⟨notMember, notJoining⟩ := State.station_of_off off
  rw [State.beginMark_eq, State.truncate_of_not_member notMember, if_neg notMember, if_neg notJoining]
  rfl

/-- The run of a MARK at a station off the line (R74). -/
theorem State.Completes.off_run (h : s.Completes q (.mark m) u) (off : s.onLine = false) (order : List MarkPart) :
    exec (.markComplete q m order) s = .next (u.beginMark m) := by
  have off' : (u.beginMark m).onLine = false := by
    obtain ⟨-, -, -, -, member, -⟩ := h.beginMark
    rw [State.onLine, member]
    exact off
  rw [h.mark_run order]
  exact congrArg Host.Outcome.next (State.markParts_of_off _ _ _ _ off' _)

/-- The output through slot 0 of a mark (R126). -/
theorem State.Completes.output_after (h : s.Completes q (.mark m) u) (on : s.onLine = true) (order : List MarkPart) :
    (u.afterMark m order).output.carry = false ∧
    ((u.afterMark m order).output.phase = .lead ∨ (u.afterMark m order).output.phase = .idle) ∧
    (s.member.station ≠ .member → (u.afterMark m order).output.phase = .idle) := by
  have output := ((h.atMark on).quiet_through (markContext m false u) (markOrder order)).output
  rw [State.output_beginMark, h.member_eq] at output
  by_cases member : s.member.station = .member
  · rw [if_pos member] at output
    rcases output with same | idle
    · rw [State.afterMark, same]
      exact ⟨rfl, .inl rfl, fun no => absurd member no⟩
    · rw [State.afterMark, idle]
      exact ⟨rfl, .inr rfl, fun _ => rfl⟩
  · rw [if_neg member, or_self] at output
    rw [State.afterMark, output]
    exact ⟨rfl, .inr rfl, fun _ => rfl⟩

/-- A MEMBER's standing counter after a mark (R66). -/
theorem State.Completes.member_after (h : s.Completes q (.mark m) u) (member : s.member.station = .member)
    (order : List MarkPart) :
    (u.afterMark m order).member = { s.member with standing := s.member.standing + 1 } := by
  have at_w := h.atMark (State.onLine_of_member member)
  obtain ⟨-, -, -, -, same, -⟩ := h.beginMark
  have was : (markContext m false u).was = .member := by
    show u.member.station = .member
    rw [h.member_eq, member]
  have counted := at_w.quiet_member (c := markContext m false u) (by rw [same, member]) was (nodup_markOrder order)
  rwa [if_pos (mem_markOrder _ _), same] at counted

theorem State.lossBlocksLost_beginMark (m : MarkFields) (u : State) :
    (u.beginMark m).lossBlocksLost = u.truncate.lossBlocksLost := by
  obtain ⟨-, -, -, -, -, -, -, -, -, holdings, -⟩ := u.beginMark_frame m
  have blocks := State.lossBlocks_beginMark m u
  obtain ⟨claim, release, outstanding, picks, -⟩ := LossBlocks.mk.inj blocks
  unfold State.lossBlocksLost
  rw [holdings, release_queueRelease_congr release, claim, outstanding, picks]
  rfl

/-- Settles O23: every block is read off the run of the parts, and the blocks of a quorum loss by whether it comes. -/
theorem markAlignsAndCounts : Obligations.MarkAlignsAndCounts := by
  intro s u p m order completes stays v ownMark inFlight line founding before ownLive
  have own : ownMark = u.outbox.ownMark := by
    show (match u.outbox.inFlight with
      | some (.mark _) => true
      | _ => false) = _
    unfold Outbox.ownMark
    rcases u.outbox.inFlight with - | n
    · rfl
    · cases n <;> rfl
  have flight : inFlight = if u.outbox.ownMark then none else u.outbox.inFlight := by
    rw [← own]
  have wire : line = if u.outbox.ownMark then { u.line with attempts := 0, clashes := 0, broken := none } else u.line := by
    rw [← own]
  have ends : u.truncate = v := by
    show _ = (match u.timer.phase with
      | .inSlot _ _ => u.cycleEnd
      | _ => u)
    unfold State.truncate
    cases u.timer.phase <;> rfl
  refine ⟨ends, ?_⟩
  by_cases on : s.onLine = true
  · obtain ⟨wired, port, snap⟩ := completes.line_after on order
    obtain ⟨carry, phase, idle⟩ := completes.output_after on order
    refine ⟨_, completes.stays_run stays on order, completes.timer_after on order, wired.trans wire.symm, port, snap, carry,
      phase, fun member keeps => ?_, idle, fun _ => ⟨(u.afterMark m order).outbox.claim,
        (u.afterMark m order).outbox.release, (u.afterMark m order).planner.claimOutstanding,
        (u.afterMark m order).planner.pickOrder, ?_, completes.planner_after on order,
        completes.sag_after on order, ends ▸ completes.derateRecords_after on order, fun member => ⟨?_, fun keeps => ?_,
          fun was isNot => ?_⟩, fun joining holdings demands served claims => ?_⟩, fun off => ?_⟩
    · have kept := ((completes.loss_of_member stays member order).1 keeps).blocks
      have output : (u.afterMark m order).output = ⟨.lead, false⟩ := by
        refine (congrArg LossBlocks.output kept).trans ?_
        rw [State.lossBlocks_beginMark, completes.member_eq, if_pos member]
      exact congrArg LoadOutput.phase output
    · rw [flight]
      exact completes.outbox_after on order
    · exact completes.member_after member order
    · have kept := (completes.loss_of_member stays member order).1 keeps
      have blocks := kept.blocks
      rw [State.lossBlocks_beginMark] at blocks
      obtain ⟨claim, release, outstanding, picks, -⟩ := LossBlocks.mk.inj blocks
      rw [← ends]
      exact ⟨claim, release, outstanding, picks, kept.own⟩
    · have taken := (completes.loss_of_member stays member order).2 was isNot
      have blocks := taken.blocks
      rw [State.lossBlocksLost_beginMark] at blocks
      obtain ⟨claim, release, outstanding, picks, -⟩ := LossBlocks.mk.inj blocks
      rw [← ends]
      exact ⟨claim, release, outstanding, picks, taken.own⟩
    · have notMember : s.member.station ≠ .member := by
        rw [joining]
        decide
      have notMember' : u.member.station ≠ .member := by rwa [completes.member_eq]
      have still := (completes.bare notMember holdings demands served claims).quiet (completes.atMark on)
        (markContext m false u) (markOrder order)
      have blocks := still.lossBlocks
      rw [State.lossBlocks_beginMark, State.truncate_of_not_member notMember'] at blocks
      obtain ⟨-, release, outstanding, picks, -⟩ := LossBlocks.mk.inj blocks
      obtain ⟨-, -, -, -, -, -, -, -, sameDemands, -⟩ := completes.frame
      obtain ⟨-, -, -, -, -, -, -, -, -, -, beginDemands, -⟩ := u.beginMark_frame m
      rw [State.truncate_of_not_member notMember', sameDemands] at beginDemands
      have hid : (u.afterMark m order).id = s.id :=
        ((completes.atMark on).quiet_through (markContext m false u) (markOrder order)).id_eq.trans completes.beginMark.1
      refine ⟨still.bare.claim, release, outstanding, picks, still.bare.holdings, still.demands.trans beginDemands,
        fun k => ?_⟩
      show ownRecords s.id _ = []
      rw [← hid]
      exact ownRecords_of_not_lists (still.bare.own k)
    · rw [on] at off
      cases off
  · have off : s.onLine = false := by simpa using on
    obtain ⟨-, notJoining⟩ := State.station_of_off off
    have founded : founding = u.timer.founding := by
      obtain ⟨-, -, -, -, timer, -⟩ := completes.frame
      rw [timer]
      exact if_neg notJoining
    have whole := State.beginMark_of_off (completes.onLine_eq.trans off) m
    rw [← founded, ← flight, ← wire] at whole
    obtain ⟨-, -, -, -, -, -, -, -, -, -, -, -, -, port, -, snap⟩ := completes.frame
    refine ⟨u.beginMark m, completes.off_run off order, ?_, ?_, ?_, ?_, ?_, ?_, fun member => ?_, fun _ => ?_,
      fun on' => absurd on' on, fun _ => whole⟩
    all_goals rw [whole]
    · rfl
    · rfl
    · exact port
    · exact snap
    · rfl
    · exact .inr rfl
    · exact absurd member (State.station_of_off off).1
    · rfl

end Sys2Proof.Machine
end

section
/-!
PROOF. The order of a mark's parts decides the records alone (Section 2.4).
-/

namespace Sys2Proof.Machine

variable {s t u w : State} {p : MarkPart} {m : MarkFields} {q : StationId} {c : MarkContext} {l l' : List MarkPart}

/-- Two states whose blocks agree but for the Notification Queue. -/
theorem State.withNotes_eq (n : NotificationQueue)
    (rest : t.pending = u.pending ∧ t.rstn = u.rstn ∧ t.id = u.id ∧ t.setup = u.setup ∧ t.line = u.line ∧
      t.port = u.port ∧ t.snap = u.snap) (outbox : t.outbox = u.outbox) (timer : t.timer = u.timer)
    (map : t.map = u.map) (peers : t.peers = u.peers) (member : t.member = u.member) (demands : t.demands = u.demands)
    (planner : t.planner = u.planner) (holdings : t.holdings = u.holdings) (sag : t.sag = u.sag)
    (output : t.output = u.output) : t.withNotes n = u.withNotes n := by
  obtain ⟨pending, rstn, hid, setup, line, port, snap⟩ := rest
  simp only [State.withNotes, State.mk.injEq, true_and]
  exact ⟨pending, rstn, hid, setup, line, outbox, timer, map, peers, member, demands, planner, holdings, sag, output, port,
    snap⟩

theorem State.SilenceLaw.positive (law : s.SilenceLaw) (on : s.onLine = true) : 0 < s.cfg.expiry :=
  Nat.zero_lt_of_lt (law (State.drives_of_onLine on) 0)

/-! ### A station that stays on -/

/-- The blocks in which a quorum loss, the promotion and the silence counts meet (R50, R77, R90). -/
structure State.SameBlocks (t u : State) : Prop where
  loss : t.lossBlocks = u.lossBlocks
  holdings : t.holdings = u.holdings
  demands : t.demands = u.demands
  member : t.member = u.member
  peers : t.peers = u.peers
  map : t.map = u.map

theorem isLive_of_marked {k : CycleNumber} {n : Nat} {due : StationId → Bool} {r r' : HolderRecord}
    (h : markedRecord k n due r = some r') (live : r'.isLive = true) : r.isLive = true := by
  cases orphan : r.orphan with
  | none => simp [HolderRecord.isLive, orphan]
  | some o =>
    unfold markedRecord at h
    rw [orphan] at h
    unfold HolderRecord.isLive at live
    grind

theorem removeLive_marked {k : CycleNumber} {n : Nat} {due : StationId → Bool} {e : SlotEntry}
    (none : listsLive e q = false) :
    removeLive q (e.filterMap (markedRecord k n due)) = e.filterMap (markedRecord k n due) := by
  refine List.filter_eq_self.2 fun r' hr' => ?_
  obtain ⟨r, hr, marked⟩ := List.mem_filterMap.1 hr'
  have notOwn := List.any_eq_false.1 none r hr
  rw [Bool.not_eq_true', ← Bool.not_eq_true]
  intro own
  rw [Bool.and_eq_true] at own
  refine notOwn ?_
  rw [Bool.and_eq_true, ← station_markedRecord marked]
  exact ⟨own.1, isLive_of_marked marked own.2⟩

/-- A MEMBER's tables after a mark, whatever the order (R15, R16, R50, R77). -/
theorem State.AtMark.tables_of_member (h : s.AtMark) (own : c.dup = false) (member : s.member.station = .member)
    (positive : 0 < s.cfg.expiry) (cycle : s.timer.cycle = c.fields.cycle) {a b : List MarkPart} (parts : Parted a b)
    [Decidable s.Loses] :
    (s.quiet c (a ++ .silence :: b)).peers = s.silenced.peers ∧
    ∀ k, (s.quiet c (a ++ .silence :: b)).map.get k =
      if s.Loses then
        removeLive s.id ((s.map.get k).filterMap (markedRecord c.fields.cycle s.cfg.expiry s.dueAtMark))
      else (s.map.get k).filterMap (markedRecord c.fields.cycle s.cfg.expiry s.dueAtMark) := by
  classical
  obtain ⟨peers, map⟩ := h.quiet_tables own positive cycle parts
  exact ⟨peers, fun k => (map k).trans (if_congr (h.loses_quiet own member positive parts) rfl rfl)⟩

/-- The blocks after a mark at a MEMBER are the same in every order. -/
theorem State.AtMark.sameBlocks_of_member (h : s.AtMark) (own : c.dup = false) (was : c.was = .member)
    (member : s.member.station = .member) (positive : 0 < s.cfg.expiry) (cycle : s.timer.cycle = c.fields.cycle)
    (floors : ∀ d ∈ s.demands, 0 < d.floor) (o₁ o₂ : List MarkPart) :
    (s.quiet c (markOrder o₁)).SameBlocks (s.quiet c (markOrder o₂)) := by
  classical
  have counted (o : List MarkPart) := h.quiet_member (c := c) member was (nodup_markOrder o)
  simp only [mem_markOrder, if_true] at counted
  obtain ⟨a₁, b₁, split₁, parts₁⟩ := markOrder_parted o₁
  obtain ⟨a₂, b₂, split₂, parts₂⟩ := markOrder_parted o₂
  have members := (counted o₁).trans (counted o₂).symm
  rw [split₁, split₂] at members ⊢
  obtain ⟨peers₁, map₁⟩ := h.tables_of_member own member positive cycle parts₁
  obtain ⟨peers₂, map₂⟩ := h.tables_of_member own member positive cycle parts₂
  have maps : (s.quiet c (a₁ ++ .silence :: b₁)).map = (s.quiet c (a₂ ++ .silence :: b₂)).map := by
    ext k
    rw [map₁, map₂]
  by_cases lost : s.Loses
  · obtain ⟨holdings₁, demands₁⟩ := h.emptied_of_loses own member positive parts₁ lost
    obtain ⟨holdings₂, demands₂⟩ := h.emptied_of_loses own member positive parts₂ lost
    exact
      { loss := (h.lossBlocks_of_loses own member positive parts₁ lost).trans
          (h.lossBlocks_of_loses own member positive parts₂ lost).symm
        holdings := holdings₁.trans holdings₂.symm
        demands := (demands₁ floors).trans (demands₂ floors).symm
        member := members
        peers := peers₁.trans peers₂.symm
        map := maps }
  · have promotions := (h.promoted_of_keeps own member positive parts₁ lost).trans
      (h.promoted_of_keeps own member positive parts₂ lost).symm
    obtain ⟨holdings, demands⟩ := Prod.mk.inj promotions
    exact
      { loss := (h.lossBlocks_of_keeps own member positive parts₁ lost).trans
          (h.lossBlocks_of_keeps own member positive parts₂ lost).symm
        holdings := holdings
        demands := demands
        member := members
        peers := peers₁.trans peers₂.symm
        map := maps }

/-- The blocks after a mark at a JOINING station that holds nothing are the same in every order. -/
theorem State.AtMark.sameBlocks_of_bare (h : s.AtMark) (bare : s.Bare) (own : c.dup = false) (was : c.was ≠ .member)
    (positive : 0 < s.cfg.expiry) (cycle : s.timer.cycle = c.fields.cycle) (o₁ o₂ : List MarkPart) :
    (s.quiet c (markOrder o₁)).SameBlocks (s.quiet c (markOrder o₂)) := by
  classical
  have joined (o : List MarkPart) := h.quiet_member_of_joining (c := c) was (nodup_markOrder o)
  simp only [mem_markOrder, if_true] at joined
  have tables (o : List MarkPart) : (s.quiet c (markOrder o)).peers = s.silenced.peers ∧ ∀ k,
      (s.quiet c (markOrder o)).map.get k =
        (s.map.get k).filterMap (markedRecord c.fields.cycle s.cfg.expiry s.dueAtMark) := by
    obtain ⟨a, b, split, parts⟩ := markOrder_parted o
    obtain ⟨peers, map⟩ := h.quiet_tables own positive cycle parts
    rw [split]
    refine ⟨peers, fun k => (map k).trans ?_⟩
    split
    · exact removeLive_marked (bare.own k)
    · rfl
  have still₁ := bare.quiet h c (markOrder o₁)
  have still₂ := bare.quiet h c (markOrder o₂)
  exact
    { loss := still₁.lossBlocks.trans still₂.lossBlocks.symm
      holdings := still₁.bare.holdings.trans still₂.bare.holdings.symm
      demands := still₁.demands.trans still₂.demands.symm
      member := congrArg Prod.fst ((joined o₁).trans (joined o₂).symm)
      peers := (tables o₁).1.trans (tables o₂).1.symm
      map := by
        ext k
        rw [(tables o₁).2, (tables o₂).2] }

/-! ### A station that lapses -/

/-- Through the parts of a mark the Demand Queue changes in its head's served flag alone (R90, R91). -/
theorem State.AtMark.clearServed_quiet (h : s.AtMark) (positive : 0 < s.cfg.expiry) (l : List MarkPart) :
    clearServed (s.quiet c l).demands = clearServed s.demands :=
  h.quiet_const (A := fun _ => True) (π := fun t => clearServed t.demands) (fun t p at_t through _ => by
    by_cases silence : p = .silence
    · subst silence
      rw [State.quietPart_silence]
      split
      · rfl
      by_cases lost : t.Loses
      · rw [State.silencePart_of_loses at_t.onLine (through.cfg_eq ▸ positive) lost, State.quorumLoss_eq,
          State.demands_withDemands, t.silenced_blocks.2.1]
        cases t.demands <;> rfl
      · rw [State.silencePart_of_keeps at_t.onLine (through.cfg_eq ▸ positive) lost, t.silenced_blocks.2.1]
    · by_cases promotion : p = .promotion
      · subst promotion
        show clearServed t.promotionPart.demands = _
        by_cases member : t.member.station = .member
        · rw [State.promotionPart_eq member]
          exact clearServed_servedDemands _ _
        · rw [State.promotionPart, if_neg member]
      · rw [(at_t.touched c silence).demands_eq promotion]) l fun _ _ => trivial

/-- A MEMBER that lapses at a mark lapses from the same blocks in every order (R66, R68). -/
theorem State.AtMark.lapsed_withNotes (h : s.AtMark) (was : c.was = .member) (member : s.member.station = .member)
    (positive : 0 < s.cfg.expiry) {f : List MarkPart} (once : f.Nodup) (no : .standing ∉ f) (n : NotificationQueue) :
    ((s.quiet c f).endedAt c .standing).withNotes n = (s.endedAt c .standing).withNotes n := by
  have through := h.quiet_through c f
  obtain ⟨pending, rstn, hid, setup, line, port, snap⟩ := through.rest
  have counted := h.quiet_member (c := c) member was once
  rw [if_neg no] at counted
  have timer := h.quiet_timer (c := c) (l := f) member
  have demands := h.clearServed_quiet (c := c) positive f
  have sag := through.sag
  unfold State.endedAt
  dsimp only
  rw [State.enterLapsed_note, State.enterLapsed_note, State.lapsed_eq, State.lapsed_eq, State.note_after, State.note_after]
  refine State.withNotes_eq n ⟨pending, rstn, hid, setup, ?_, port, snap⟩ rfl ?_ rfl rfl ?_ demands rfl rfl ?_ rfl
  · simp only [State.withNotes, State.withMember, line]
    rfl
  · simp [timer]
  · simp [counted]
  · simp only [State.sag_withNotes, State.sag_withMember]
    rw [sag]

/-! ### The order of the parts -/

/-- The run of a mark at which a station stays on leaves the same in every order, but for the records. -/
theorem State.Completes.afterMark_withNotes (h : s.Completes q (.mark m) u) (on : s.onLine = true) (o₁ o₂ : List MarkPart)
    (same : (u.afterMark m o₁).SameBlocks (u.afterMark m o₂)) (n : NotificationQueue) :
    (u.afterMark m o₁).withNotes n = (u.afterMark m o₂).withNotes n := by
  have at_w := h.atMark on
  obtain ⟨pending₁, rstn₁, hid₁, setup₁, line₁, port₁, snap₁⟩ :=
    (at_w.quiet_through (markContext m false u) (markOrder o₁)).rest
  obtain ⟨pending₂, rstn₂, hid₂, setup₂, line₂, port₂, snap₂⟩ :=
    (at_w.quiet_through (markContext m false u) (markOrder o₂)).rest
  obtain ⟨claim, release, outstanding, picks, output⟩ := LossBlocks.mk.inj same.loss
  refine State.withNotes_eq n ⟨pending₁.trans pending₂.symm, rstn₁.trans rstn₂.symm, hid₁.trans hid₂.symm,
    setup₁.trans setup₂.symm, line₁.trans line₂.symm, port₁.trans port₂.symm, snap₁.trans snap₂.symm⟩ ?_
    ((h.timer_after on o₁).trans (h.timer_after on o₂).symm) same.map same.peers same.member same.demands ?_ same.holdings
    ((h.sag_after on o₁).trans (h.sag_after on o₂).symm) output
  · rw [h.outbox_after on o₁, h.outbox_after on o₂, claim, release]
  · rw [h.planner_after on o₁, h.planner_after on o₂, outstanding, picks]

/-- Settles O27: off the line no part is taken; a lapse leaves the same blocks, and so do the quiet parts. -/
theorem markOrderDecidesOnlyTheRecords : Obligations.MarkOrderDecidesOnlyTheRecords := by
  intro s u p m o₁ o₂ safe completes agree
  by_cases on : s.onLine = true
  · have at_w := completes.atMark on
    have positive := safe.silence.positive on
    have positive' : 0 < (u.beginMark m).cfg.expiry := completes.cfg_beginMark.symm ▸ positive
    obtain ⟨-, -, -, -, member, -⟩ := completes.beginMark
    have cycle : (u.beginMark m).timer.cycle = m.cycle := by
      rw [State.beginMark_eq]
      rfl
    by_cases due : s.member.station = .member ∧ s.cfg.expiry ≤ s.member.standing + 2
    · have isMember : (u.beginMark m).member.station = .member := by rw [member, due.1]
      have was : (markContext m false u).was = .member := by
        show u.member.station = .member
        rw [completes.member_eq, due.1]
      have lapses (o : List MarkPart) : ∃ t, exec (.markComplete p m o) s = .next t ∧
          t.withNotes s.notes = ((u.beginMark m).endedAt (markContext m false u) .standing).withNotes s.notes := by
        have isDue : (u.beginMark m).endsAt (markContext m false u) .standing := by
          rw [State.endsAt_beginMark, completes.cfg_eq, completes.member_eq]
          exact .inr (.inr ⟨rfl, due⟩)
        obtain ⟨front, part, -, ends, once, before, -, -, run⟩ := at_w.parts_end (u.was_beginMark m false) (markOrder o)
          (nodup_markOrder o) ⟨.standing, mem_markOrder o _, isDue⟩
        have standing : part = .standing := by
          rw [State.endsAt_beginMark, completes.cfg_eq] at ends
          rcases ends with ⟨-, differs⟩ | ⟨-, dup⟩ | ⟨is, -⟩
          · exact absurd (agree on) differs
          · cases dup
          · exact is
        subst standing
        refine ⟨_, completes.mark_run o, ?_⟩
        rw [run]
        exact at_w.lapsed_withNotes was isMember positive' once (fun inFront => before _ inFront isDue) _
      obtain ⟨t₁, run₁, same₁⟩ := lapses o₁
      obtain ⟨t₂, run₂, same₂⟩ := lapses o₂
      exact ⟨t₁, t₂, run₁, run₂, same₁.trans same₂.symm⟩
    · have stays : s.StaysOn m := ⟨agree, fun isMember => by
        by_contra late
        exact due ⟨isMember, by omega⟩⟩
      refine ⟨_, _, completes.stays_run stays on o₁, completes.stays_run stays on o₂,
        completes.afterMark_withNotes on o₁ o₂ ?_ s.notes⟩
      have station : u.member.station = s.member.station := congrArg Membership.station completes.member_eq
      by_cases isMember : s.member.station = .member
      · have floors : ∀ d ∈ (u.beginMark m).demands, 0 < d.floor := by
          obtain ⟨-, -, -, -, -, -, -, -, -, -, begun, -⟩ := u.beginMark_frame m
          obtain ⟨-, -, -, -, -, -, -, -, same, -⟩ := completes.frame
          rw [begun]
          exact floors_truncate (same.symm ▸ safe.demands.floors)
        exact at_w.sameBlocks_of_member rfl (station.trans isMember) (by rw [member, isMember]) positive' cycle
          floors o₁ o₂
      · exact at_w.sameBlocks_of_bare (completes.bare isMember safe.holdings safe.demands safe.served safe.claims) rfl
          (fun was => isMember (station.symm.trans was)) positive' cycle o₁ o₂
  · have off : s.onLine = false := by simpa using on
    exact ⟨_, _, completes.off_run off o₁, completes.off_run off o₂, rfl⟩

end Sys2Proof.Machine
end

section
/-!
PROOF. Bits, bytes and slot sets of a frame: what is written reads back, and what is read writes back (Section 10.1).
-/

namespace Sys2Proof.Machine

/-! ### Bits -/

theorem valueOf_cons (b : Bool) (bs : List Bool) : valueOf (b :: bs) = b.toNat * 2 ^ bs.length + valueOf bs := by
  induction bs using List.reverseRecOn with
  | nil => simp [valueOf]
  | append_singleton bs c ih =>
    rw [← List.cons_append, valueOf_append, valueOf_append, ih, List.length_append, List.length_singleton, pow_succ]
    ring

theorem valueOf_lt (bs : List Bool) : valueOf bs < 2 ^ bs.length := by
  induction bs with
  | nil => simp [valueOf]
  | cons b bs ih =>
    rw [valueOf_cons, List.length_cons, pow_succ]
    cases b <;> simp <;> omega

/-- Bits written out of a number read back as the number. -/
theorem valueOf_bitsOf {n v : Nat} (h : v < 2 ^ n) : valueOf (bitsOf n v) = v := by
  have low (n : Nat) : valueOf (bitsOf n v) = v % 2 ^ n := by
    induction n with
    | zero => simp [bitsOf, valueOf, Nat.mod_one]
    | succ n ih => rw [bitsOf, valueOf_cons, ih, length_bitsOf, Nat.mod_pow_succ, Nat.toNat_testBit]; ring
  rw [low, Nat.mod_eq_of_lt h]

/-- The bits of two fields side by side. -/
theorem bitsOf_add (a b x : Nat) {y : Nat} (h : y < 2 ^ b) : bitsOf (a + b) (x * 2 ^ b + y) = bitsOf a x ++ bitsOf b y := by
  have bit (j : Nat) : (x * 2 ^ b + y).testBit j = if j < b then y.testBit j else x.testBit (j - b) := by
    rw [mul_comm]
    exact Nat.testBit_two_pow_mul_add x h j
  have low (n : Nat) (hn : n ≤ b) : bitsOf n (x * 2 ^ b + y) = bitsOf n y := by
    induction n with
    | zero => rfl
    | succ n ih => rw [bitsOf, bitsOf, bit, if_pos (show n < b from hn), ih (by omega)]
  induction a with
  | zero => rw [Nat.zero_add, low b le_rfl]; rfl
  | succ a ih =>
    rw [Nat.add_right_comm, bitsOf, bit, if_neg (by omega), Nat.add_sub_cancel, ih]
    rfl

/-- Bits that are read as a number write the same bits. -/
theorem bitsOf_valueOf (bs : List Bool) : bitsOf bs.length (valueOf bs) = bs := by
  induction bs with
  | nil => rfl
  | cons b bs ih =>
    have one : bitsOf 1 b.toNat = [b] := by cases b <;> rfl
    rw [valueOf_cons, List.length_cons, Nat.add_comm, bitsOf_add 1 bs.length b.toNat (valueOf_lt bs), ih, one]
    rfl

theorem valueOf_inj {as bs : List Bool} (length : as.length = bs.length) : valueOf as = valueOf bs ↔ as = bs :=
  ⟨fun h => by rw [← bitsOf_valueOf as, ← bitsOf_valueOf bs, h, length], fun h => by rw [h]⟩

/-! ### Bytes -/

theorem byteBits_cons (b : Nat) (bytes : List Nat) : byteBits (b :: bytes) = bitsOf 8 b ++ byteBits bytes := rfl

@[simp] theorem length_byteBits (bytes : List Nat) : (byteBits bytes).length = 8 * bytes.length := by
  induction bytes with
  | nil => rfl
  | cons b bytes ih =>
    rw [byteBits_cons, List.length_append, ih, length_bitsOf, List.length_cons]
    ring

@[simp] theorem length_bytesFrom (n : Nat) (bs : List Bool) : (bytesFrom n bs).length = n := by
  simp [bytesFrom_eq_map]

theorem lt_of_mem_bytesFrom {n b : Nat} {bs : List Bool} (h : b ∈ bytesFrom n bs) : b < 256 := by
  rw [bytesFrom_eq_map] at h
  obtain ⟨j, -, rfl⟩ := List.mem_map.1 h
  have short : ((bs.drop (8 * j)).take 8).length ≤ 8 := by simp
  exact (valueOf_lt _).trans_le (Nat.pow_le_pow_right (by decide) short)

/-- Bytes that are written read back, whatever follows them. -/
theorem bytesFrom_byteBits {bytes : List Nat} (small : ∀ b ∈ bytes, b < 256) (rest : List Bool) :
    bytesFrom bytes.length (byteBits bytes ++ rest) = bytes := by
  induction bytes with
  | nil => rfl
  | cons b bytes ih =>
    rw [List.length_cons, bytesFrom, byteBits_cons, List.append_assoc, List.take_left' (length_bitsOf 8 b),
      List.drop_left' (length_bitsOf 8 b), ih fun x hx => small x (by simp [hx]), valueOf_bitsOf (small b (by simp))]

/-- Whole bytes that are read write the same bits. -/
theorem byteBits_bytesFrom {n : Nat} {bs : List Bool} (enough : 8 * n ≤ bs.length) :
    byteBits (bytesFrom n bs) = bs.take (8 * n) := by
  induction n generalizing bs with
  | zero => rfl
  | succ n ih =>
    have eight : (bs.take 8).length = 8 := by simp; omega
    have first := bitsOf_valueOf (bs.take 8)
    rw [eight] at first
    rw [bytesFrom, byteBits_cons, first, ih (by simp; omega), Nat.mul_succ, Nat.add_comm, List.take_add]

/-! ### Slot sets -/

theorem lt_of_mem_slotSetBytes {x : SlotSet} {b : Nat} (h : b ∈ slotSetBytes x) : b < 256 := lt_of_mem_bytesFrom h

@[simp] theorem length_slotSetBytes (x : SlotSet) : (slotSetBytes x).length = 8 := length_bytesFrom 8 _

theorem length_map_allSlots (f : SlotIndex → Bool) : (allSlots.map f).length = 64 := by simp [allSlots]

theorem getD_map_allSlots (f : SlotIndex → Bool) (k : SlotIndex) : (allSlots.map f).getD k.val false = f k := by
  simp [allSlots, List.getD_eq_getElem?_getD]

/-- A slot set reads back from its eight bytes. -/
theorem slotSetFrom_slotSetBytes (x : SlotSet) : slotSetFrom (slotSetBytes x) = x := by
  have bits : byteBits (slotSetBytes x) = allSlots.map (slotIn x) := by
    rw [slotSetBytes, byteBits_bytesFrom (by rw [length_map_allSlots])]
    exact List.take_of_length_le (by rw [length_map_allSlots])
  refine SlotSet.ext_slots fun k => ?_
  rw [slotSetFrom, slotIn_slotSetWhere, bits, getD_map_allSlots]

/-- Eight bytes read as a slot set write the same bytes. -/
theorem slotSetBytes_slotSetFrom {bytes : List Nat} (eight : bytes.length = 8) (small : ∀ b ∈ bytes, b < 256) :
    slotSetBytes (slotSetFrom bytes) = bytes := by
  have bits : allSlots.map (slotIn (slotSetFrom bytes)) = byteBits bytes := by
    apply List.ext_getElem
    · rw [length_map_allSlots, length_byteBits, eight]
    · intro i _ inside
      simp [slotSetFrom, allSlots, List.getElem?_eq_getElem inside]
  have back := bytesFrom_byteBits small []
  rw [List.append_nil, eight] at back
  rw [slotSetBytes, bits, back]

end Sys2Proof.Machine
end

section
/-!
PROOF. The layouts of the notices, and the judgement of a frame's bits (Sections 8.2, 8.4, 10.1 and 10.2).
-/

namespace Sys2Proof.Machine

variable {p : StationId} {n : Notice}

/-! ### Notices and their bytes -/

theorem payloadLength_noticeKind (n : Notice) : payloadLength (noticeKind n) = some (noticePayload n).length := by
  cases n <;> simp [noticeKind, noticePayload, payloadLength]

/-- The conditions of Table 10-6, with the widths of the fields. -/
theorem noticeWellFormed_iff (p : StationId) (n : Notice) : noticeWellFormed p n = true ↔
    match n with
    | .mark m => m.derate ≤ 14 ∧ m.slotLength < 256 ∧ m.budget < 256 ∧ m.deratedBudget < 256 ∧ m.period < 256 ∧
        m.expiry < 256 ∧ m.quorum < 256 ∧ m.derateHold < 256
    | .sag | .leave => True
    | .contest t x => t ≠ p ∧ x ≠ 0
    | .release x => x ≠ 0
    | .presence f => 1 ≤ f.units ∧ f.units < 256 ∧ (f.role = .joining → f.holdings = 0)
    | .claim c => 1 ≤ c.units ∧ c.units < 256 ∧ c.slots ≠ 0 := by
  cases n with
  | mark m => simp [noticeWellFormed, and_assoc]
  | presence f => cases role : f.role <;> simp [noticeWellFormed, and_assoc, role]
  | _ => simp [noticeWellFormed, and_assoc]

/-- The payload bytes of a well-formed notice are bytes. -/
theorem lt_of_mem_noticePayload (formed : noticeWellFormed p n = true) {b : Nat} (h : b ∈ noticePayload n) : b < 256 := by
  rw [noticeWellFormed_iff] at formed
  cases n with
  | mark m =>
    obtain ⟨derate, rest⟩ := formed
    have cycle := m.cycle.isLt
    simp only [noticePayload, List.mem_cons, List.not_mem_nil, or_false] at h
    omega
  | sag | leave => cases h
  | contest t x =>
    rcases List.mem_cons.1 h with rfl | h
    · exact t.isLt.trans (by decide)
    · exact lt_of_mem_slotSetBytes h
  | release x => exact lt_of_mem_slotSetBytes h
  | presence f =>
    rcases List.mem_cons.1 h with rfl | h
    · have priority := f.priority.isLt
      split <;> omega
    rcases List.mem_cons.1 h with rfl | h
    · exact formed.2.1
    · exact lt_of_mem_slotSetBytes h
  | claim c =>
    rcases List.mem_cons.1 h with rfl | h
    · exact formed.2.1
    rcases List.mem_cons.1 h with rfl | h
    · exact c.priority.isLt.trans (by decide)
    · exact lt_of_mem_slotSetBytes h

theorem stationFrom_eq_some {v : Nat} {t : StationId} : stationFrom v = some t ↔ v = t.val := by
  unfold stationFrom
  split
  · next small => simp [Fin.ext_iff]
  · next big =>
    refine ⟨nofun, fun h => absurd (h ▸ t.isLt) big⟩

theorem priorityFrom_eq_some {v : Nat} {q : Priority} : priorityFrom v = some q ↔ v = q.val := by
  unfold priorityFrom
  split
  · next small => simp [Fin.ext_iff]
  · next big =>
    refine ⟨nofun, fun h => absurd (h ▸ q.isLt) big⟩

/-- The notice that payload bytes spell, before Table 10-6 is applied (Tables 10-3 to 10-5). -/
inductive Spells : Nat → List Nat → Notice → Prop
  | mark (c1 c0 l b bd p e q d r : Nat) :
      Spells 0 [c1, c0, l, b, bd, p, e, q, d, r] (.mark ⟨BitVec.ofNat 16 (c1 * 256 + c0), l, b, bd, p, e, q, d, r⟩)
  | sag : Spells 1 [] .sag
  | contest (t : StationId) (x : List Nat) : Spells 2 (t.val :: x) (.contest t (slotSetFrom x))
  | release (x : List Nat) : Spells 3 x (.release (slotSetFrom x))
  | leave : Spells 4 [] .leave
  | presence (f u : Nat) (q : Priority) (x : List Nat) (priority : f % 128 = q.val) : Spells 5 (f :: u :: x)
      (.presence ⟨if f / 128 = 1 then .member else .joining, q, u, slotSetFrom x⟩)
  | claim (u : Nat) (q : Priority) (x : List Nat) : Spells 6 (u :: q.val :: x) (.claim ⟨u, q, slotSetFrom x⟩)

/-- Payload bytes give a notice exactly where they spell it and Table 10-6 does not make it malformed (R165). -/
theorem noticeFrom_eq_some (kind : Nat) (p : StationId) (bytes : List Nat) (n : Notice) :
    noticeFrom kind p bytes = some n ↔ Spells kind bytes n ∧ noticeWellFormed p n = true := by
  unfold noticeFrom
  simp only [Option.filter_eq_some_iff]
  refine and_congr_left fun _ => ⟨fun h => ?_, fun h => ?_⟩
  · split at h
    · cases h
      exact .mark ..
    · cases h
      exact .sag
    · obtain ⟨t, station, rfl⟩ := Option.map_eq_some_iff.1 h
      rw [stationFrom_eq_some.1 station]
      exact .contest ..
    · cases h
      exact .release _
    · cases h
      exact .leave
    · obtain ⟨q, priority, rfl⟩ := Option.map_eq_some_iff.1 h
      exact .presence _ _ _ _ (priorityFrom_eq_some.1 priority)
    · obtain ⟨q, priority, rfl⟩ := Option.map_eq_some_iff.1 h
      rw [priorityFrom_eq_some.1 priority]
      exact .claim ..
    · cases h
  · cases h with
    | contest t x => simp [stationFrom_eq_some.2 rfl]
    | presence f u q x priority => simp [priorityFrom_eq_some.2 priority]
    | claim u q x => simp [priorityFrom_eq_some.2 rfl]
    | _ => rfl

/-- A notice's own bytes spell it. -/
theorem spells_noticePayload (n : Notice) : Spells (noticeKind n) (noticePayload n) n := by
  cases n with
  | mark m =>
    have cycle : BitVec.ofNat 16 (m.cycle.toNat / 256 * 256 + m.cycle.toNat % 256) = m.cycle := by
      rw [Nat.div_add_mod', BitVec.ofNat_toNat, BitVec.setWidth_eq]
    have spelled := Spells.mark (m.cycle.toNat / 256) (m.cycle.toNat % 256) m.slotLength m.budget m.deratedBudget m.period
      m.expiry m.quorum m.derateHold m.derate
    rwa [cycle] at spelled
  | sag => exact .sag
  | contest t x =>
    have spelled := Spells.contest t (slotSetBytes x)
    rwa [slotSetFrom_slotSetBytes] at spelled
  | release x =>
    have spelled := Spells.release (slotSetBytes x)
    rwa [slotSetFrom_slotSetBytes] at spelled
  | leave => exact .leave
  | presence f =>
    have priority := f.priority.isLt
    have spelled := Spells.presence ((if f.role = .member then 128 else 0) + f.priority.val) f.units f.priority
      (slotSetBytes f.holdings) (by split <;> omega)
    have role : (if ((if f.role = .member then 128 else 0) + f.priority.val) / 128 = 1 then Role.member else .joining) =
        f.role := by
      cases f.role
      · exact if_neg (by simp; omega)
      · exact if_pos (by simp; omega)
    rwa [slotSetFrom_slotSetBytes, role] at spelled
  | claim c =>
    have spelled := Spells.claim c.units c.priority (slotSetBytes c.slots)
    rwa [slotSetFrom_slotSetBytes] at spelled

/-- Bytes of a kind's length that spell a notice are its own. -/
theorem payload_of_spells {kind : Nat} {bytes : List Nat} (h : Spells kind bytes n)
    (length : payloadLength kind = some bytes.length) (small : ∀ b ∈ bytes, b < 256) :
    noticeKind n = kind ∧ noticePayload n = bytes := by
  cases h with
  | mark c1 c0 l b bd p e q d r =>
    have high := small c1 (by simp)
    have low := small c0 (by simp)
    have cycle : (BitVec.ofNat 16 (c1 * 256 + c0)).toNat = c1 * 256 + c0 := by
      rw [BitVec.toNat_ofNat]
      omega
    have first : (c1 * 256 + c0) / 256 = c1 := by omega
    have second : (c1 * 256 + c0) % 256 = c0 := by omega
    refine ⟨rfl, ?_⟩
    unfold noticePayload
    dsimp only
    rw [cycle, first, second]
  | sag | leave => exact ⟨rfl, rfl⟩
  | contest t x =>
    have eight : x.length = 8 := by simpa [payloadLength] using length.symm
    exact ⟨rfl, congrArg _ (slotSetBytes_slotSetFrom eight fun b hb => small b (by simp [hb]))⟩
  | release x =>
    have eight : bytes.length = 8 := by simpa [payloadLength] using length.symm
    exact ⟨rfl, slotSetBytes_slotSetFrom eight small⟩
  | presence f u q x priority =>
    have eight : x.length = 8 := by simpa [payloadLength] using length.symm
    have first := small f (by simp)
    have byte : (if (if f / 128 = 1 then Role.member else .joining) = .member then 128 else 0) + q.val = f := by
      by_cases set : f / 128 = 1
      · rw [if_pos set, if_pos rfl]
        omega
      · rw [if_neg set, if_neg (by decide)]
        omega
    refine ⟨rfl, ?_⟩
    unfold noticePayload
    dsimp only
    rw [byte, slotSetBytes_slotSetFrom eight fun b hb => small b (by simp [hb])]
  | claim u q x =>
    have eight : x.length = 8 := by simpa [payloadLength] using length.symm
    refine ⟨rfl, ?_⟩
    unfold noticePayload
    dsimp only
    rw [slotSetBytes_slotSetFrom eight fun b hb => small b (by simp [hb])]

end Sys2Proof.Machine
end

section
/-!
PROOF. What a listener reads from the bits of a frame, and the remainder of the check (R130, R133, R134).
-/

namespace Sys2Proof.Machine

variable {p : StationId} {n : Notice} {bits : List Bool}

/-! ### The fields of a frame -/

theorem noticeKind_lt (n : Notice) : noticeKind n < 2 ^ 3 := by
  cases n <;> simp [noticeKind]

theorem length_noticePayload_lt (n : Notice) : (noticePayload n).length < 12 := by
  cases n <;> simp [noticePayload]

/-- The bits before the check, field by field (Section 10.1). -/
theorem bodyBits_eq (p : StationId) (n : Notice) : bodyBits p n =
    bitsOf 3 (noticeKind n) ++ (bitsOf 5 p.val ++ (bitsOf 4 (noticePayload n).length ++ byteBits (noticePayload n))) := by
  have key : bitsOf 8 (arbitrationKey p n) = bitsOf 3 (noticeKind n) ++ bitsOf 5 p.val :=
    bitsOf_add 3 5 (noticeKind n) p.isLt
  rw [bodyBits, key]
  simp only [List.append_assoc]

theorem length_bodyBits (p : StationId) (n : Notice) : (bodyBits p n).length = 12 + 8 * (noticePayload n).length := by
  simp [bodyBits_eq]
  omega

/-- The kind code that the first bits of a frame spell. -/
def kindOf (bits : List Bool) : Nat := valueOf (bits.take 3)

/-- The payload length that the ninth to the twelfth bit spell. -/
def lengthOf (bits : List Bool) : Nat := valueOf ((bits.drop 8).take 4)

/-- What is read from the bits of a notice, whatever follows them. -/
theorem read_bodyBits (p : StationId) (n : Notice) (rest : List Bool) :
    kindOf (bodyBits p n ++ rest) = noticeKind n ∧ senderOf (bodyBits p n ++ rest) = p ∧
    lengthOf (bodyBits p n ++ rest) = (noticePayload n).length ∧
    (bodyBits p n ++ rest).drop 12 = byteBits (noticePayload n) ++ rest := by
  have three := length_bitsOf 3 (noticeKind n)
  have eight : (bitsOf 3 (noticeKind n) ++ bitsOf 5 p.val).length = 8 := by simp
  have twelve : (bitsOf 3 (noticeKind n) ++ bitsOf 5 p.val ++ bitsOf 4 (noticePayload n).length).length = 12 := by simp
  have small := length_noticePayload_lt n
  refine ⟨?_, ?_, ?_, ?_⟩
  · rw [kindOf, bodyBits_eq, List.append_assoc, List.take_left' three, valueOf_bitsOf (noticeKind_lt n)]
  · rw [senderOf, bodyBits_eq, List.append_assoc, List.drop_left' three, List.append_assoc,
      List.take_left' (length_bitsOf 5 p.val), valueOf_bitsOf p.isLt]
    exact Fin.ofNat_val_eq_self p
  · rw [lengthOf, bodyBits_eq, ← List.append_assoc, List.append_assoc, List.drop_left' eight, List.append_assoc,
      List.take_left' (length_bitsOf 4 _), valueOf_bitsOf (by omega)]
  · rw [bodyBits_eq, ← List.append_assoc, ← List.append_assoc, List.append_assoc, List.drop_left' twelve]

/-- The bits of a frame up to its check, from what is read of them. -/
theorem take_eq_fields (enough : 12 + 8 * lengthOf bits ≤ bits.length) : bits.take (12 + 8 * lengthOf bits) =
    bitsOf 3 (kindOf bits) ++ (bitsOf 5 (senderOf bits).val ++ (bitsOf 4 (lengthOf bits) ++
      byteBits (bytesFrom (lengthOf bits) (bits.drop 12)))) := by
  have kind : bitsOf 3 (kindOf bits) = bits.take 3 := by
    have same := bitsOf_valueOf (bits.take 3)
    rwa [List.length_take_of_le (by omega)] at same
  have sender : bitsOf 5 (senderOf bits).val = (bits.drop 3).take 5 := by
    have five : ((bits.drop 3).take 5).length = 5 := List.length_take_of_le (by rw [List.length_drop]; omega)
    have same := bitsOf_valueOf ((bits.drop 3).take 5)
    have small := valueOf_lt ((bits.drop 3).take 5)
    rw [five] at same small
    rw [senderOf, Fin.val_ofNat, Nat.mod_eq_of_lt (show _ < 32 from small), same]
  have length : bitsOf 4 (lengthOf bits) = (bits.drop 8).take 4 := by
    have same := bitsOf_valueOf ((bits.drop 8).take 4)
    rwa [List.length_take_of_le (by rw [List.length_drop]; omega)] at same
  rw [kind, sender, length, byteBits_bytesFrom (by rw [List.length_drop]; omega)]
  have split (a b : Nat) : bits.take (a + b) = bits.take a ++ (bits.drop a).take b := List.take_add
  rw [split 12, show 12 = 8 + 4 from rfl, split 8, show 8 = 3 + 5 from rfl, split 3]
  simp only [List.append_assoc]

/-- The bits up to the check are those of a well-formed notice exactly where the listener reads that notice. -/
theorem carries_notice_iff (enough : 12 + 8 * lengthOf bits ≤ bits.length)
    (length : payloadLength (kindOf bits) = some (lengthOf bits)) (p : StationId) (n : Notice) :
    (noticeWellFormed p n = true ∧ bodyBits p n = bits.take (12 + 8 * lengthOf bits)) ↔
      p = senderOf bits ∧
        noticeFrom (kindOf bits) (senderOf bits) (bytesFrom (lengthOf bits) (bits.drop 12)) = some n := by
  rw [noticeFrom_eq_some]
  constructor
  · rintro ⟨formed, body⟩
    have whole : bits = bodyBits p n ++ bits.drop (12 + 8 * lengthOf bits) := by
      rw [body, List.take_append_drop]
    obtain ⟨kind, sender, len, payload⟩ := read_bodyBits p n (bits.drop (12 + 8 * lengthOf bits))
    rw [← whole] at kind sender len payload
    rw [kind, sender, payload, len, bytesFrom_byteBits fun b => lt_of_mem_noticePayload formed]
    exact ⟨rfl, spells_noticePayload n, formed⟩
  · rintro ⟨rfl, spells, formed⟩
    obtain ⟨kind, payload⟩ := payload_of_spells spells (by rw [length_bytesFrom, length]) fun b => lt_of_mem_bytesFrom
    refine ⟨formed, ?_⟩
    rw [take_eq_fields enough, bodyBits_eq, kind, payload, length_bytesFrom]

/-! ### The judgement -/

/-- The sixteen bits of the check, as they are sent (R133). -/
def checkBits (bits : List Bool) : List Bool := (List.range 16).map (check bits).getMsbD

theorem bitsOf_check (bits : List Bool) : bitsOf 16 (check bits).toNat = checkBits bits := by
  rw [bitsOf_eq_map, checkBits]
  refine List.map_congr_left fun i hi => ?_
  rw [List.mem_range] at hi
  rw [BitVec.getMsbD, decide_eq_true hi, Bool.true_and]
  rfl

theorem frameBits_eq (p : StationId) (n : Notice) : frameBits p n = bodyBits p n ++ checkBits (bodyBits p n) := by
  rw [frameBits, bitsOf_check]

theorem judge_of_short (h : bits.length < 12) : judge bits = .incomplete := if_pos h

theorem judge_of_long (h : 12 ≤ bits.length) (long : 12 ≤ lengthOf bits) : judge bits = .badLength :=
  (if_neg (Nat.not_lt.2 h)).trans (if_pos long)

theorem judge_of_key (h : 12 ≤ bits.length) (fits : lengthOf bits < 12)
    (key : payloadLength (kindOf bits) ≠ some (lengthOf bits)) : judge bits = .badKey :=
  (if_neg (Nat.not_lt.2 h)).trans ((if_neg (Nat.not_le.2 fits)).trans (if_pos key))

/-- What is judged once the length is known to be the kind's (R164). -/
theorem judge_of_length (h : 12 ≤ bits.length) (fits : lengthOf bits < 12)
    (length : payloadLength (kindOf bits) = some (lengthOf bits)) : judge bits =
      if bits.length < 12 + 8 * lengthOf bits then .incomplete
      else
        match noticeFrom (kindOf bits) (senderOf bits) (bytesFrom (lengthOf bits) (bits.drop 12)) with
        | none => .badPayload
        | some n =>
          if bits.length < 28 + 8 * lengthOf bits then .incomplete
          else if valueOf ((bits.drop (12 + 8 * lengthOf bits)).take 16) =
            (check (bits.take (12 + 8 * lengthOf bits))).toNat then .whole (senderOf bits) n
          else .badCheck := by
  refine (if_neg (Nat.not_lt.2 h)).trans ((if_neg (Nat.not_le.2 fits)).trans ((if_neg (not_not.2 length)).trans ?_))
  refine if_congr Iff.rfl rfl ?_
  unfold kindOf lengthOf
  cases noticeFrom (valueOf (bits.take 3)) (senderOf bits)
    (bytesFrom (valueOf ((bits.drop 8).take 4)) (bits.drop 12)) <;> rfl

/-- The check bits read as the register exactly where they are its bits. -/
theorem checked_iff (body : List Bool) {sent : List Bool} (sixteen : sent.length = 16) :
    valueOf sent = (check body).toNat ↔ sent = checkBits body := by
  rw [← bitsOf_check, ← valueOf_inj (by rw [sixteen, length_bitsOf]), valueOf_bitsOf (check body).isLt]

/-- The judgement of the bits of a well-formed notice, whatever follows them. -/
theorem judge_of_carried (enough : 12 + 8 * lengthOf bits ≤ bits.length) (fits : lengthOf bits < 12)
    (length : payloadLength (kindOf bits) = some (lengthOf bits)) (formed : noticeWellFormed p n = true)
    (body : bodyBits p n = bits.take (12 + 8 * lengthOf bits)) : judge bits =
      if bits.length < 28 + 8 * lengthOf bits then .incomplete
      else if (bits.drop (12 + 8 * lengthOf bits)).take 16 = checkBits (bits.take (12 + 8 * lengthOf bits)) then .whole p n
      else .badCheck := by
  obtain ⟨sender, read⟩ := (carries_notice_iff enough length p n).1 ⟨formed, body⟩
  rw [judge_of_length (by omega) fits length, if_neg (Nat.not_lt.2 enough), read, ← sender]
  dsimp only
  by_cases short : bits.length < 28 + 8 * lengthOf bits
  · rw [if_pos short, if_pos short]
  · have sixteen : ((bits.drop (12 + 8 * lengthOf bits)).take 16).length = 16 :=
      List.length_take_of_le (by rw [List.length_drop]; omega)
    rw [if_neg short, if_neg short]
    exact if_congr (checked_iff _ sixteen) rfl rfl

/-- Bits of no well-formed notice are judged so at the last payload bit (R165). -/
theorem judge_of_payload (enough : 12 + 8 * lengthOf bits ≤ bits.length) (fits : lengthOf bits < 12)
    (length : payloadLength (kindOf bits) = some (lengthOf bits))
    (none : ∀ p n, noticeWellFormed p n = true → bodyBits p n ≠ bits.take (12 + 8 * lengthOf bits)) :
    judge bits = .badPayload := by
  rw [judge_of_length (by omega) fits length, if_neg (Nat.not_lt.2 enough)]
  cases read : noticeFrom (kindOf bits) (senderOf bits) (bytesFrom (lengthOf bits) (bits.drop 12)) with
  | none => rfl
  | some n =>
    obtain ⟨formed, body⟩ := (carries_notice_iff enough length _ n).2 ⟨rfl, read⟩
    exact absurd body (none _ _ formed)

/-- The frame of a well-formed notice is judged to be that notice (R130). -/
theorem judge_frameBits (formed : noticeWellFormed p n = true) : judge (frameBits p n) = .whole p n := by
  obtain ⟨kind, -, len, -⟩ := read_bodyBits p n (checkBits (bodyBits p n))
  rw [← frameBits_eq] at kind len
  have size : (frameBits p n).length = 28 + 8 * lengthOf (frameBits p n) := by
    rw [len, frameBits_eq, List.length_append, length_bodyBits]
    simp [checkBits]
    omega
  have body : (frameBits p n).take (12 + 8 * lengthOf (frameBits p n)) = bodyBits p n := by
    rw [len, frameBits_eq, List.take_left' (length_bodyBits p n)]
  have sent : (frameBits p n).drop (12 + 8 * lengthOf (frameBits p n)) = checkBits (bodyBits p n) := by
    rw [len, frameBits_eq, List.drop_left' (length_bodyBits p n)]
  rw [judge_of_carried (by omega) (by rw [len]; exact length_noticePayload_lt n) (by rw [kind, len, payloadLength_noticeKind])
    formed body.symm, if_neg (by omega), body, sent, List.take_of_length_le (by simp [checkBits]), if_pos rfl]

end Sys2Proof.Machine
end

section
/-!
PROOF. The check as the remainder of a polynomial over the two-element field (R133), and what a frame is.
-/

namespace Sys2Proof.Machine

open Polynomial

/-! ### The polynomial of bits -/

/-- The coefficient that a bit stands for. -/
noncomputable def bitTerm (b : Bool) : (ZMod 2)[X] := if b then 1 else 0

/-- The polynomial of bits, the first bit the highest power. -/
noncomputable def bitPoly (bits : List Bool) : (ZMod 2)[X] := bits.foldl (fun f b => X * f + bitTerm b) 0

/-- The generator of R133. -/
noncomputable def generator : (ZMod 2)[X] := X ^ 16 + X ^ 12 + X ^ 5 + 1

theorem add_self_poly (f : (ZMod 2)[X]) : f + f = 0 := CharTwo.add_self_eq_zero f

theorem bitTerm_xor (a b : Bool) : bitTerm (a ^^ b) = bitTerm a + bitTerm b := by
  cases a <;> cases b <;> simp [bitTerm, add_self_poly]

theorem bitPoly_append (bits : List Bool) (b : Bool) : bitPoly (bits ++ [b]) = X * bitPoly bits + bitTerm b := by
  simp [bitPoly]

/-- The polynomial of a register's bits, the highest place first. -/
theorem bitPoly_range (n : Nat) (f : Nat → Bool) :
    bitPoly ((List.range n).map fun i => f (n - 1 - i)) = ∑ i ∈ Finset.range n, bitTerm (f i) * X ^ i := by
  induction n generalizing f with
  | zero => simp [bitPoly]
  | succ n ih =>
    have shifted : (List.range n).map (fun i => f (n + 1 - 1 - i)) = (List.range n).map fun i => f (n - 1 - i + 1) :=
      List.map_congr_left fun i hi => by
        rw [List.mem_range] at hi
        congr 1
        omega
    rw [List.range_succ, List.map_append, List.map_singleton, bitPoly_append, shifted, ih fun i => f (i + 1),
      Finset.sum_range_succ', Finset.mul_sum, Nat.add_sub_cancel, Nat.sub_self, pow_zero, mul_one]
    refine congrArg (· + _) (Finset.sum_congr rfl fun i _ => ?_)
    ring

/-- The polynomial of a register of the check. -/
noncomputable def registerPoly (r : BitVec 16) : (ZMod 2)[X] := ∑ i ∈ Finset.range 16, bitTerm (r.getLsbD i) * X ^ i

theorem bitPoly_checkBits (bits : List Bool) : bitPoly (checkBits bits) = registerPoly (check bits) := by
  rw [registerPoly, ← bitPoly_range 16 (check bits).getLsbD, checkBits]
  refine congrArg bitPoly (List.map_congr_left fun i hi => ?_)
  rw [List.mem_range] at hi
  rw [BitVec.getMsbD, decide_eq_true hi, Bool.true_and]

/-- One bit into the register: what leaves it and what enters is a multiple of the generator (R133). -/
theorem registerPoly_checkStep (r : BitVec 16) (b : Bool) :
    X * registerPoly r + X ^ 16 * bitTerm b + registerPoly (checkStep r b) =
      generator * (bitTerm (r.getLsbD 15) + bitTerm b) := by
  have place (i : Nat) (hi : i ∈ Finset.range 16) : bitTerm ((checkStep r b).getLsbD i) * X ^ i =
      bitTerm (decide (0 < i) && r.getLsbD (i - 1)) * X ^ i +
        (bitTerm (r.getLsbD 15) + bitTerm b) * if i = 0 ∨ i = 5 ∨ i = 12 then X ^ i else 0 := by
    rw [checkStep_getLsbD r b i (Finset.mem_range.1 hi), bitTerm_xor]
    by_cases fed : i = 0 ∨ i = 5 ∨ i = 12
    · rw [decide_eq_true fed, Bool.true_and, if_pos fed, bitTerm_xor]
      ring
    · rw [decide_eq_false fed, Bool.false_and, if_neg fed]
      simp [bitTerm]
  have taps : ∑ i ∈ Finset.range 16, (if i = 0 ∨ i = 5 ∨ i = 12 then X ^ i else 0 : (ZMod 2)[X]) = 1 + X ^ 5 + X ^ 12 := by
    simp [Finset.sum_range_succ]
  have shifted : ∑ i ∈ Finset.range 16, bitTerm (decide (0 < i) && r.getLsbD (i - 1)) * X ^ i =
      ∑ i ∈ Finset.range 15, bitTerm (r.getLsbD i) * X ^ (i + 1) := by
    rw [Finset.sum_range_succ']
    simp [bitTerm]
  have raised : X * registerPoly r = ∑ i ∈ Finset.range 15, bitTerm (r.getLsbD i) * X ^ (i + 1) +
      bitTerm (r.getLsbD 15) * X ^ 16 := by
    rw [registerPoly, Finset.mul_sum, Finset.sum_range_succ]
    refine congrArg₂ (· + ·) (Finset.sum_congr rfl fun i _ => ?_) ?_ <;> ring
  have stepped : registerPoly (checkStep r b) = ∑ i ∈ Finset.range 15, bitTerm (r.getLsbD i) * X ^ (i + 1) +
      (bitTerm (r.getLsbD 15) + bitTerm b) * (1 + X ^ 5 + X ^ 12) := by
    rw [registerPoly, Finset.sum_congr rfl place, Finset.sum_add_distrib, shifted, ← Finset.mul_sum, taps]
  rw [raised, stepped, generator]
  linear_combination add_self_poly (∑ i ∈ Finset.range 15, bitTerm (r.getLsbD i) * X ^ (i + 1))

/-- The check is the remainder: added to the bits and the register's sixteen ones in their places, it leaves a
multiple of the generator (R133). -/
theorem generator_dvd (bits : List Bool) : generator ∣
    X ^ 16 * bitPoly bits + X ^ bits.length * bitPoly (List.replicate 16 true) + registerPoly (check bits) := by
  induction bits using List.reverseRecOn with
  | nil =>
    have ones : registerPoly (check []) = bitPoly (List.replicate 16 true) := by
      rw [← bitPoly_checkBits]
      exact congrArg bitPoly (by decide)
    rw [ones, List.length_nil, pow_zero, one_mul, add_assoc, add_self_poly, add_zero, bitPoly, List.foldl_nil, mul_zero]
    exact dvd_zero _
  | append_singleton bits b ih =>
    have step := registerPoly_checkStep (check bits) b
    have split : X ^ 16 * bitPoly (bits ++ [b]) + X ^ (bits ++ [b]).length * bitPoly (List.replicate 16 true) +
        registerPoly (check (bits ++ [b])) =
        X * (X ^ 16 * bitPoly bits + X ^ bits.length * bitPoly (List.replicate 16 true) + registerPoly (check bits)) +
          generator * (bitTerm ((check bits).getLsbD 15) + bitTerm b) := by
      rw [← step, bitPoly_append, check_append, List.length_append, List.length_singleton, pow_succ]
      linear_combination -add_self_poly (X * registerPoly (check bits))
    rw [split]
    exact dvd_add (dvd_mul_of_dvd_right ih _) (dvd_mul_right _ _)

/-- Settles O50: the fields read back and write back, and the check is a remainder. -/
theorem framesCarryTheirNotice : Obligations.FramesCarryTheirNotice := by
  unfold Obligations.FramesCarryTheirNotice
  intro msbFirst number lengths slots layout carried checkBits' poly
  have laid (n : Notice) : layout n = (noticeKind n, noticePayload n) := by
    cases n with
    | mark m => rfl
    | sag | leave => rfl
    | contest t x => exact congrArg (fun l => (2, t.val :: l)) (slotSetBytes_eq_map x).symm
    | release x => exact congrArg (fun l => (3, l)) (slotSetBytes_eq_map x).symm
    | presence f => exact congrArg (fun l => (5, _ :: f.units :: l)) (slotSetBytes_eq_map f.holdings).symm
    | claim c => exact congrArg (fun l => (6, c.units :: c.priority.val :: l)) (slotSetBytes_eq_map c.slots).symm
  have carries (p : StationId) (n : Notice) : bodyBits p n = carried p n := by
    have first (k : Nat) : msbFirst k = bitsOf k := funext fun v => (bitsOf_eq_map k v).symm
    show _ = msbFirst 3 (layout n).1 ++ msbFirst 5 p.val ++ msbFirst 4 (layout n).2.length ++
      (layout n).2.flatMap (msbFirst 8)
    rw [laid, bodyBits_eq]
    simp only [first, List.append_assoc, byteBits]
  have numbered (bits : List Bool) : number bits = valueOf bits := (valueOf_eq_ofDigits bits).symm
  have keyed (kind len : Nat) : lengths[kind]? = some len ↔ payloadLength kind = some len := by
    match kind with
    | 0 | 1 | 2 | 3 | 4 | 5 | 6 => exact Iff.rfl
    | k + 7 => exact iff_of_false (by simp [lengths]) nofun
  refine ⟨fun ks x k => ⟨?_, rfl⟩, fun n => ?_, fun p n => ⟨carries p n, ?_⟩, fun bits => ?_,
    fun p n formed => judge_frameBits formed, fun p n => (noticeWellFormed_iff p n).trans ?_,
    fun bits => ⟨judge_of_short, fun long => ?_⟩⟩
  · rw [slotIn_slotSetOf, List.contains_eq_mem]
  · rw [laid]
    exact (keyed _ _).2 (payloadLength_noticeKind n)
  · rw [← carries]
    exact frameBits_eq p n
  · have whole := generator_dvd bits
    rw [← bitPoly_checkBits] at whole
    exact whole
  · cases n <;> exact Iff.rfl
  · intro kind len body
    have kindIs : kind = kindOf bits := numbered _
    have lenIs : len = lengthOf bits := numbered _
    have bodyIs : body = bits.take (12 + 8 * lengthOf bits) := by
      rw [← lenIs]
    rw [keyed, kindIs, lenIs, bodyIs]
    refine ⟨judge_of_long long, fun fits other => judge_of_key long fits (mt (keyed _ _).2 other), fun fits length => ⟨fun short => ?_, fun enough => ⟨fun none => ?_,
      fun p n formed same => ⟨fun short => ?_, fun all => ?_⟩⟩⟩⟩
    · rw [judge_of_length long fits length, if_pos short]
    · exact judge_of_payload enough fits length fun p n formed => by
        rw [carries]
        exact none p n formed
    · rw [judge_of_carried enough fits length formed ((carries p n).trans same), if_pos short]
    · rw [judge_of_carried enough fits length formed ((carries p n).trans same), if_neg (Nat.not_lt.2 all)]
      rfl

end Sys2Proof.Machine
end
